-- ==== Sys2Proof/Word.lean ====
section
/-! DEFINITION. The word types of the FLC core: levels, bytes, the model's operation words, and exact fractions. -/

namespace Sys2Proof

/-- A level on a one-bit port or register: 0 is low, 1 is high (00_scope.md R6). -/
abbrev Level := BitVec 1

/-- An eight-bit value: a dial reading, a power level, one byte of an operation word. -/
abbrev Byte := BitVec 8

/-- An operation word of the model: the format byte above the selector byte (log 4). -/
abbrev OpWord := BitVec 16

/-- A non-negative rational `num / den`, kept unreduced: the encoders' exact values (00_scope.md R7, D13). -/
structure Frac where
  num : Nat
  den : Nat
  deriving DecidableEq, Repr

end Sys2Proof
end

