-- ==== Sys2Proof/Syntax.lean ====
section
/-! DEFINITION. The labels of the control microprogram and the operations of the opcode table. -/

namespace Sys2Proof

/-- The 34 labels of the control microprogram, in the order of its listing (40_mode_state_machine.md R90). -/
inductive Label where
  | cSample | cDecide
  | sSetMo | sWait | sSetOn
  | cCommit | cDispatch
  | nSetMo | nSetOn | nLoadPower | nDispPower | nSetLed
  | iClrGate | iClrOn | iWait | iClrMo | iLoadPower | iDispPower | iClrLed
  | fClrGate | fClrOn | fWait | fClrMo | fLoadRate | fDispRate | fClrLed
  | aFlashStart | aClrDisplay | aClrGate | aClrOn | aWait | aClrMo | aSetAlarmState
  | cLoop
  deriving DecidableEq, Repr

/-- The operations, one constructor per row of the opcode table.

A micro-op has no operand field (30_encoding.md R81). Where one stands at several labels, the constructor carries the label
it stands at, which is its encoding and fixes its successor (R90); a composite that stands at several places carries its
first label. `x` and `sw` are the bits a pattern of MODE3 or IN4 does not examine (R71, R74). -/
inductive Instr where
  -- MODE3: the actions DISPATCH selects (R71)
  | runOn
  | runIdle
  | runOffSetRate
  | runAlarmTemp
  | runAlarmReflection
  | runAlarmMo
  | runAlarmReserved (x : Level)
  -- IN4: the candidates the sampled inputs select (R74)
  | candAlarmTemp (sw : BitVec 2)
  | candAlarmReflection (sw : BitVec 2)
  | candAlarmMo (sw : BitVec 2)
  | candOn (sw2 : Level)
  | candOffSetRate
  | candIdle
  -- UOP: the micro-operations of SEQ (R81)
  | sample
  | decide
  | setMo (l : Label)
  | setOn (l : Label)
  | clrOn (l : Label)
  | clrMo (l : Label)
  | clrGate (l : Label)
  | setLed
  | clrLed (l : Label)
  | wait5ms
  | wait1ms (l : Label)
  | commit
  | dispatch
  | loop
  | loadPower (l : Label)
  | dispPower (l : Label)
  | loadRate
  | dispRate
  | flashStart
  | clrDisplay
  | setAlarmState
  -- COMPOSITE: fixed sequences of micro-ops (R82)
  | nextMode
  | startupSeq
  | shutdownSeq (l : Label)
  | powerEncode (l : Label)
  | rateEncode
  | alarmAction
  | controlCycle
  -- EVENT: the timer agents, the time base and the environment (R84)
  | pulseTick
  | flashTick
  | advance
  | reset
  deriving DecidableEq, Repr

end Sys2Proof
end

