-- ==== Sys2Proof/WellFormed.lean ====
section
/-! DEFINITION. Which operations exist: a micro-op or composite that carries a label must stand at that label of the
control microprogram (40_mode_state_machine.md R90, R106, R107 to R113, R115; 41_power_level_encoder.md R120 to R122). -/

namespace Sys2Proof

/-- The labels each micro-op or composite that stands at several places stands at; the others carry no label and are
well formed as they are. -/
def Instr.wellFormed : Instr → Bool
  | .setMo l => l == .sSetMo || l == .nSetMo
  | .setOn l => l == .sSetOn || l == .nSetOn
  | .clrOn l => l == .iClrOn || l == .fClrOn || l == .aClrOn
  | .clrMo l => l == .iClrMo || l == .fClrMo || l == .aClrMo
  | .clrGate l => l == .iClrGate || l == .fClrGate || l == .aClrGate
  | .clrLed l => l == .iClrLed || l == .fClrLed
  | .wait1ms l => l == .iWait || l == .fWait || l == .aWait
  | .loadPower l => l == .nLoadPower || l == .iLoadPower
  | .dispPower l => l == .nDispPower || l == .iDispPower
  | .shutdownSeq l => l == .iClrGate || l == .fClrGate || l == .aClrGate
  | .powerEncode l => l == .nLoadPower || l == .iLoadPower
  | .runOn | .runIdle | .runOffSetRate | .runAlarmTemp | .runAlarmReflection | .runAlarmMo | .runAlarmReserved _
  | .candAlarmTemp _ | .candAlarmReflection _ | .candAlarmMo _ | .candOn _ | .candOffSetRate | .candIdle
  | .sample | .decide | .setLed | .wait5ms | .commit | .dispatch | .loop | .loadRate | .dispRate
  | .flashStart | .clrDisplay | .setAlarmState
  | .nextMode | .startupSeq | .rateEncode | .alarmAction | .controlCycle
  | .pulseTick | .flashTick | .advance | .reset => true

/-- `i` is an operation of the hardware. -/
abbrev Instr.WellFormed (i : Instr) : Prop := i.wellFormed = true

end Sys2Proof
end

