-- ==== Sys2Proof/Decode.lean ====
section
/-! DEFINITION. The decoder and the encoder.

Two formats of the table have bits: MODE3, the value of the register `mode` (30_encoding.md R71), and IN4, the value of the
latch `samp` (R72, R74). A micro-op is selected by its label, a composite by its place, an event by its trigger (R84), and
none of these has a bit pattern. The model's OPERATION WORD gives every operation bits, so that an operation can be written
down: the low byte is the selector, the high byte the format (log 4):
0 MODE3, 1 IN4, 2 UOP (the label's number in the listing of R90), 3 COMPOSITE, 4 EVENT.
A MODE3 value needs three bits, so a format-0 selector of 8 to 15 can only be an IN4 value and is read as one (log 5). -/

namespace Sys2Proof

/-- Why an operation word is no operation. -/
inductive DecodeError where
  /-- Fewer than two bytes. -/
  | truncated
  /-- The format byte is above 4. -/
  | unknownFormat
  /-- A format-0 selector above 15. -/
  | notMode3
  /-- An IN4 selector above 15. -/
  | notIn4
  /-- A UOP selector above 33. -/
  | notLabel
  /-- A COMPOSITE selector above 9. -/
  | notComposite
  /-- An EVENT selector above 3. -/
  | notEvent
  deriving DecidableEq, Repr

/-- MODE3, the action selector: total on the 3-bit register (R71). -/
def decodeMode3 (m : BitVec 3) : Instr :=
  if m = 0b000#3 then .runOn
  else if m = 0b001#3 then .runIdle
  else if m = 0b010#3 then .runOffSetRate
  else if m = 0b011#3 then .runAlarmTemp
  else if m = 0b100#3 then .runAlarmReflection
  else if m = 0b101#3 then .runAlarmMo
  else .runAlarmReserved (m.extractLsb' 0 1)

/-- IN4, the next-mode decode: six disjoint patterns that cover all 16 values of `samp` (R74). -/
def decodeIn4 (v : BitVec 4) : Instr :=
  if v.extractLsb' 0 2 = 0b00#2 then .candAlarmTemp (v.extractLsb' 2 2)
  else if v.extractLsb' 0 2 = 0b01#2 then .candAlarmReflection (v.extractLsb' 2 2)
  else if v.extractLsb' 0 2 = 0b11#2 then .candAlarmMo (v.extractLsb' 2 2)
  else if v.extractLsb' 2 1 = 0b0#1 then .candOn (v.extractLsb' 3 1)
  else if v.extractLsb' 3 1 = 0b0#1 then .candOffSetRate
  else .candIdle

/-- The micro-op at each label: the middle column of the control microprogram (40_mode_state_machine.md R90). -/
def uopAt : Label → Instr
  | .cSample => .sample
  | .cDecide => .decide
  | .sSetMo => .setMo .sSetMo
  | .sWait => .wait5ms
  | .sSetOn => .setOn .sSetOn
  | .cCommit => .commit
  | .cDispatch => .dispatch
  | .nSetMo => .setMo .nSetMo
  | .nSetOn => .setOn .nSetOn
  | .nLoadPower => .loadPower .nLoadPower
  | .nDispPower => .dispPower .nDispPower
  | .nSetLed => .setLed
  | .iClrGate => .clrGate .iClrGate
  | .iClrOn => .clrOn .iClrOn
  | .iWait => .wait1ms .iWait
  | .iClrMo => .clrMo .iClrMo
  | .iLoadPower => .loadPower .iLoadPower
  | .iDispPower => .dispPower .iDispPower
  | .iClrLed => .clrLed .iClrLed
  | .fClrGate => .clrGate .fClrGate
  | .fClrOn => .clrOn .fClrOn
  | .fWait => .wait1ms .fWait
  | .fClrMo => .clrMo .fClrMo
  | .fLoadRate => .loadRate
  | .fDispRate => .dispRate
  | .fClrLed => .clrLed .fClrLed
  | .aFlashStart => .flashStart
  | .aClrDisplay => .clrDisplay
  | .aClrGate => .clrGate .aClrGate
  | .aClrOn => .clrOn .aClrOn
  | .aWait => .wait1ms .aWait
  | .aClrMo => .clrMo .aClrMo
  | .aSetAlarmState => .setAlarmState
  | .cLoop => .loop

/-- The labels in the order of the listing of R90; a label's place here is its selector (log 4). -/
def labelTable : List Label :=
  [.cSample, .cDecide, .sSetMo, .sWait, .sSetOn, .cCommit, .cDispatch,
   .nSetMo, .nSetOn, .nLoadPower, .nDispPower, .nSetLed,
   .iClrGate, .iClrOn, .iWait, .iClrMo, .iLoadPower, .iDispPower, .iClrLed,
   .fClrGate, .fClrOn, .fWait, .fClrMo, .fLoadRate, .fDispRate, .fClrLed,
   .aFlashStart, .aClrDisplay, .aClrGate, .aClrOn, .aWait, .aClrMo, .aSetAlarmState, .cLoop]

/-- The composites with a place in the microprogram, in the model's order (log 4). -/
def compositeTable : List Instr :=
  [.nextMode, .startupSeq, .shutdownSeq .iClrGate, .shutdownSeq .fClrGate, .shutdownSeq .aClrGate,
   .powerEncode .nLoadPower, .powerEncode .iLoadPower, .rateEncode, .alarmAction, .controlCycle]

/-- The events, in the model's order (log 4). -/
def eventTable : List Instr :=
  [.pulseTick, .flashTick, .advance, .reset]

/-- The operation at place `n` of a table. -/
def lookup (t : List Instr) (n : Nat) (e : DecodeError) : Except DecodeError Instr :=
  match t[n]? with
  | some i => .ok i
  | none => .error e

/-- The operation that a format byte and a selector byte name. -/
def decodeParts (format selector : Nat) : Except DecodeError Instr :=
  match format with
  | 0 =>
    if selector < 8 then .ok (decodeMode3 (BitVec.ofNat 3 selector))
    else if selector < 16 then .ok (decodeIn4 (BitVec.ofNat 4 selector))
    else .error .notMode3
  | 1 => if selector < 16 then .ok (decodeIn4 (BitVec.ofNat 4 selector)) else .error .notIn4
  | 2 => lookup (labelTable.map uopAt) selector .notLabel
  | 3 => lookup compositeTable selector .notComposite
  | 4 => lookup eventTable selector .notEvent
  | _ => .error .unknownFormat

/-- The operation an operation word names. -/
def decodeWord (w : OpWord) : Except DecodeError Instr :=
  decodeParts (w.toNat / 256) (w.toNat % 256)

/-- Decoding bytes, the selector first: the operation and the bytes after it. -/
def decode : List Byte → Except DecodeError (Instr × List Byte)
  | selector :: format :: rest => (decodeWord (format ++ selector)).map (fun i => (i, rest))
  | [_] => .error .truncated
  | [] => .error .truncated

/-- The two bytes of an operation word, the selector first. -/
def wordBytes (w : OpWord) : List Byte := [w.extractLsb' 0 8, w.extractLsb' 8 8]

/-- The bits `w` of a table row as an operation word, if they fit one: the bits above the row's own are 0. -/
def tableWord (nbits w : Nat) : Option OpWord :=
  if w % 2 ^ nbits < 65536 then some (BitVec.ofNat 16 (w % 2 ^ nbits)) else none

/-- The operation the decoder reads from the bits of a row of the opcode table. A row without bits is selected by no bit
pattern (R84), so nothing is read from it. -/
def decodeTableWord (nbits w : Nat) : Option Instr :=
  if nbits = 0 then none
  else
    match tableWord nbits w with
    | none => none
    | some v =>
      match decode (wordBytes v) with
      | .ok (i, _) => some i
      | .error _ => none

/-! The encoder. -/

/-- A label's number in the listing of R90. -/
def Label.index : Label → Nat
  | .cSample => 0 | .cDecide => 1 | .sSetMo => 2 | .sWait => 3 | .sSetOn => 4 | .cCommit => 5 | .cDispatch => 6
  | .nSetMo => 7 | .nSetOn => 8 | .nLoadPower => 9 | .nDispPower => 10 | .nSetLed => 11
  | .iClrGate => 12 | .iClrOn => 13 | .iWait => 14 | .iClrMo => 15 | .iLoadPower => 16 | .iDispPower => 17
  | .iClrLed => 18
  | .fClrGate => 19 | .fClrOn => 20 | .fWait => 21 | .fClrMo => 22 | .fLoadRate => 23 | .fDispRate => 24
  | .fClrLed => 25
  | .aFlashStart => 26 | .aClrDisplay => 27 | .aClrGate => 28 | .aClrOn => 29 | .aWait => 30 | .aClrMo => 31
  | .aSetAlarmState => 32 | .cLoop => 33

/-- A word of format 0: a MODE3 value (R71). -/
def mode3Word (m : BitVec 3) : OpWord := (0x00#8 : BitVec 8) ++ m.setWidth 8

/-- A word of format 1: an IN4 value, most significant bit first `sw2_n, sw1_n, a_msb, a_lsb` (R72). -/
def in4Word (v : BitVec 4) : OpWord := (0x01#8 : BitVec 8) ++ v.setWidth 8

/-- A word of format 2: the micro-op at a label. -/
def uopWord (l : Label) : OpWord := (0x02#8 : BitVec 8) ++ BitVec.ofNat 8 l.index

/-- A word of format 3: a composite by its place in `compositeTable`. -/
def compositeWord (n : Nat) : OpWord := (0x03#8 : BitVec 8) ++ BitVec.ofNat 8 n

/-- A word of format 4: an event by its place in `eventTable`. -/
def eventWord (n : Nat) : OpWord := (0x04#8 : BitVec 8) ++ BitVec.ofNat 8 n

/-- The operation word of a well-formed operation. -/
def encode : Instr → OpWord
  | .runOn => mode3Word 0b000#3
  | .runIdle => mode3Word 0b001#3
  | .runOffSetRate => mode3Word 0b010#3
  | .runAlarmTemp => mode3Word 0b011#3
  | .runAlarmReflection => mode3Word 0b100#3
  | .runAlarmMo => mode3Word 0b101#3
  | .runAlarmReserved x => mode3Word ((0b11#2 : BitVec 2) ++ x)
  | .candAlarmTemp sw => in4Word (sw ++ (0b00#2 : BitVec 2))
  | .candAlarmReflection sw => in4Word (sw ++ (0b01#2 : BitVec 2))
  | .candAlarmMo sw => in4Word (sw ++ (0b11#2 : BitVec 2))
  | .candOn sw2 => in4Word (sw2 ++ (0b010#3 : BitVec 3))
  | .candOffSetRate => in4Word 0b0110#4
  | .candIdle => in4Word 0b1110#4
  | .sample => uopWord .cSample
  | .decide => uopWord .cDecide
  | .setMo l => uopWord l
  | .setOn l => uopWord l
  | .clrOn l => uopWord l
  | .clrMo l => uopWord l
  | .clrGate l => uopWord l
  | .setLed => uopWord .nSetLed
  | .clrLed l => uopWord l
  | .wait5ms => uopWord .sWait
  | .wait1ms l => uopWord l
  | .commit => uopWord .cCommit
  | .dispatch => uopWord .cDispatch
  | .loop => uopWord .cLoop
  | .loadPower l => uopWord l
  | .dispPower l => uopWord l
  | .loadRate => uopWord .fLoadRate
  | .dispRate => uopWord .fDispRate
  | .flashStart => uopWord .aFlashStart
  | .clrDisplay => uopWord .aClrDisplay
  | .setAlarmState => uopWord .aSetAlarmState
  | .nextMode => compositeWord 0
  | .startupSeq => compositeWord 1
  | .shutdownSeq l => compositeWord (if l = .iClrGate then 2 else if l = .fClrGate then 3 else 4)
  | .powerEncode l => compositeWord (if l = .nLoadPower then 5 else 6)
  | .rateEncode => compositeWord 7
  | .alarmAction => compositeWord 8
  | .controlCycle => compositeWord 9
  | .pulseTick => eventWord 0
  | .flashTick => eventWord 1
  | .advance => eventWord 2
  | .reset => eventWord 3

end Sys2Proof
end

