-- ==== Sys2Proof/Config.lean ====
section
/-! DEFINITION. What an implementation fixes (the OPEN parameters of 00_scope.md R5) and the free values: constants
without a body, so that no proof can see what they are. Also the data types those constants range over. -/

namespace Sys2Proof

/-- What the 12-bit display port makes of a result above 4095 (45_display_encoder.md R162). -/
inductive DisplayOvf where
  | saturate
  | wrap
  deriving DecidableEq, Repr, Inhabited

/-- The levels the environment drives on the input ports (20_memory.md R51). CLK is not among them: each of its rising
edges is one ADVANCE. -/
structure Inputs where
  alarmLsb : Level
  alarmMsb : Level
  sw1N     : Level
  sw2N     : Level
  dial     : Byte
  /-- "unused by core logic currently": no rule reads it (D28). -/
  trigInN  : Level
  /-- The reset pin, active high (70_reset_and_hazards.md R200). -/
  rst      : Level
  deriving DecidableEq, Repr, Inhabited

/-- One input-change step of ENV: the ports named take new levels, a port given `none` keeps its own
(20_memory.md R58 item 4, 30_encoding.md R83 `SET`). -/
structure InputChange where
  alarmLsb : Option Level := none
  alarmMsb : Option Level := none
  sw1N     : Option Level := none
  sw2N     : Option Level := none
  dial     : Option Byte := none
  trigInN  : Option Level := none
  rst      : Option Level := none
  deriving DecidableEq, Repr, Inhabited

/-- The six kinds of step of a run (20_memory.md R58). -/
inductive Act where
  /-- SEQ performs the micro-op that `seq_pc` names. -/
  | seq
  /-- PPG performs PULSE_TICK. -/
  | pulseTick
  /-- AFL performs FLASH_TICK. -/
  | flashTick
  /-- One tick of the time base passes. -/
  | advance
  /-- ENV resets the core. -/
  | reset
  /-- ENV changes input levels. -/
  | input (c : InputChange)
  deriving DecidableEq, Repr, Inhabited

/-- How SEQ comes to perform one micro-op inside a composite: how many ticks it idles beyond `seq_hold`
(20_memory.md R69), and whether a PULSE_TICK and a FLASH_TICK due at that same tick go before it or after (R62). -/
structure Lag where
  ticks      : Nat
  pulseFirst : Bool
  flashFirst : Bool
  deriving DecidableEq, Repr, Inhabited

/-- What ENV does between two micro-ops of a composite: one input change, and after it perhaps a RESET
(20_memory.md R55, R58; log 3). -/
structure EnvMove where
  change : InputChange := {}
  reset  : Bool := false
  deriving DecidableEq, Repr, Inhabited

namespace Config

/-- `F_CLK_HZ` less its lowest legal value. -/
opaque fClkHzAboveMin : Nat

/-- `F_CLK_HZ`: any integer from 1,000,000 up (R5, D1). -/
def fClkHz : Nat := 1000000 + fClkHzAboveMin

/-- `DM_NUM` less 1. -/
opaque dmNumPred : Nat

/-- `DM_DEN` less 1. -/
opaque dmDenPred : Nat

/-- DisplayMultiplier `DM_NUM / DM_DEN`: any positive rational (R5, D14; 10_state.md R36). -/
def displayMultiplier : Frac := { num := 1 + dmNumPred, den := 1 + dmDenPred }

/-- `DISPLAY_OVF` (R5, D15). -/
opaque displayOvf : DisplayOvf

/-- `GATE_RESET` (R5, D7). -/
opaque gateReset : Level

/-- `RATE_RESET` (R5, D10). -/
opaque rateReset : Byte

/-- `LASER_EN_ACTIVE_LOW` (R5, D8). -/
opaque laserEnActiveLow : Bool

/-- FREE VALUE: which step the agents and the environment take next when the agenda is empty (R58, R62, R68, R69; log 1). -/
opaque choice : Nat → Act

/-- FREE VALUE: how many free steps SEQ, enabled, may still be left waiting: finite and without a bound (R69; log 22). -/
opaque patience : Nat → Nat

/-- FREE VALUE: how SEQ comes to its next micro-op inside a composite (R62, R69; log 3). -/
opaque lag : Nat → Lag

/-- FREE VALUE: LABEL(mode) for the modes 0, 1 and 2, "left undefined" (44_alarm_actions.md R157; log 11). -/
opaque freeLabel : Nat → BitVec 3

/-- FREE VALUE: the levels on the input ports when reset is released (20_memory.md R68; log 13). -/
opaque inputsAtReset : Inputs

end Config

end Sys2Proof
end

