-- ==== Sys2Proof/Machine/Operands.lean ====
section
/-! DEFINITION. The operand functions: exact arithmetic, the encoders, the candidate function, the microprogram's branches
and durations, and the reading of the input ports. All are pure. -/

namespace Sys2Proof.Machine

/-! ## Exact arithmetic (00_scope.md R7) -/

/-- `rhu(q) = floor(q + 1/2)`: to the nearest integer, a tie going up. -/
def rhu (q : Frac) : Nat := (2 * q.num + q.den) / (2 * q.den)

/-- The product of two rationals. -/
def fracMul (a b : Frac) : Frac := { num := a.num * b.num, den := a.den * b.den }

/-- `ceil(n / d)`. -/
def ceilDiv (n d : Nat) : Nat := (n + d - 1) / d

/-! ## Durations in ticks (00_scope.md R5), for a clock of `f` ticks a second -/

/-- `WAIT5_TICKS = ceil(F_CLK_HZ * 5 / 1000)`. -/
def wait5TicksAt (f : Nat) : Nat := ceilDiv (f * 5) 1000

/-- `WAIT1_TICKS = ceil(F_CLK_HZ / 1000)`. -/
def wait1TicksAt (f : Nat) : Nat := ceilDiv f 1000

/-- `ONE_SEC_TICKS = F_CLK_HZ`. -/
def oneSecTicksAt (f : Nat) : Nat := f

/-! ## The encoders (30_encoding.md R79) -/

/-- `F_KHZ(r) = 156863/1000000 * r + 25`. -/
def fKhz (r : Byte) : Frac := { num := 25000000 + 156863 * r.toNat, den := 1000000 }

/-- `HALF_US(r) = 500 / F_KHZ(r)`. -/
def halfUs (r : Byte) : Frac := { num := 500 * (fKhz r).den, den := (fKhz r).num }

/-- `HALF_TICKS(r) = max(1, rhu(HALF_US(r) * F_CLK_HZ / 1000000))`. -/
def halfTicksAt (f : Nat) (r : Byte) : Nat :=
  max 1 (rhu (fracMul (halfUs r) { num := f, den := 1000000 }))

/-- `RATE_DISP(r) = 10 * F_KHZ(r)`. -/
def rateDisp (r : Byte) : Frac := { num := 10 * (fKhz r).num, den := (fKhz r).den }

/-- `PWR_MV(v) = 117641/100000 * v`. -/
def pwrMv (v : Byte) : Frac := { num := 117641 * v.toNat, den := 100000 }

/-- `BOUND12(n)`: what a 12-bit port makes of `n` (45_display_encoder.md R162). -/
def bound12 (ovf : DisplayOvf) (n : Nat) : BitVec 12 :=
  if n ≤ 4095 then BitVec.ofNat 12 n
  else
    match ovf with
    | .saturate => 4095#12
    | .wrap => BitVec.ofNat 12 (n % 4096)

/-- `DISP(x) = BOUND12(rhu(x * DM_NUM / DM_DEN))` for a multiplier `dm` (45_display_encoder.md R161). -/
def dispWith (ovf : DisplayOvf) (dm x : Frac) : BitVec 12 := bound12 ovf (rhu (fracMul x dm))

/-! The same at this machine's parameters. -/

/-- `WAIT5_TICKS`. -/
def wait5Ticks : Nat := wait5TicksAt Config.fClkHz

/-- `WAIT1_TICKS`. -/
def wait1Ticks : Nat := wait1TicksAt Config.fClkHz

/-- `ONE_SEC_TICKS`. -/
def oneSecTicks : Nat := oneSecTicksAt Config.fClkHz

/-- `HALF_TICKS(r)`. -/
def halfTicks (r : Byte) : Nat := halfTicksAt Config.fClkHz r

/-- `DISP(x)`. -/
def disp (x : Frac) : BitVec 12 := dispWith Config.displayOvf Config.displayMultiplier x

/-- The width of a counter that holds 0 to `n`, for `n` of 1 or more: `ceil(log2(n + 1))` (10_state.md R31: PPG_W, AFL_W, HOLD_W). -/
def counterWidth (n : Nat) : Nat := Nat.log2 n + 1

/-! ## Mode derivation -/

/-- The candidate mode, a function of `samp` alone: the alarm code first, then switch 1, then switch 2
(40_mode_state_machine.md R92; priority 60_exceptions.md R183). -/
def candidate (samp : BitVec 4) : BitVec 3 :=
  if samp.extractLsb' 0 1 = 1#1 ∧ samp.extractLsb' 1 1 = 1#1 then 5#3
  else if samp.extractLsb' 0 1 = 1#1 ∧ samp.extractLsb' 1 1 = 0#1 then 4#3
  else if samp.extractLsb' 0 1 = 0#1 ∧ samp.extractLsb' 1 1 = 0#1 then 3#3
  else if samp.extractLsb' 2 1 = 0#1 then 0#3
  else if samp.extractLsb' 3 1 = 0#1 then 2#3
  else 1#3

/-- The startup condition: the candidate is ON and the mode still held is IDLE or OFF_SET_RATE
(40_mode_state_machine.md R99; 90_conflicts.md C3: no other previous mode). -/
def startSeq (cand mode : BitVec 3) : Bool := cand == 0#3 && (mode == 1#3 || mode == 2#3)

/-- LABEL(mode), the alarm label of a mode; the modes 0, 1 and 2 have none (44_alarm_actions.md R157; values 10_state.md R24). -/
def alarmLabel (mode : BitVec 3) : Option (BitVec 3) :=
  if mode = 3#3 then some 1#3
  else if mode = 4#3 then some 2#3
  else if mode = 5#3 then some 3#3
  else if mode = 6#3 ∨ mode = 7#3 then some 4#3
  else none

/-! ## The microprogram (40_mode_state_machine.md R90) -/

/-- The label where the action of a mode begins: modes 3 to 7 all take the alarm action (R102). -/
def actionEntry (mode : BitVec 3) : Label :=
  if mode = 0#3 then .nSetMo
  else if mode = 1#3 then .iClrGate
  else if mode = 2#3 then .fClrGate
  else .aFlashStart

/-- The successor of a label. DECIDE and DISPATCH choose theirs by R99 and R102 and do not use this; here they have the
successor of a cycle without startup sequence and of a mode that is no other. -/
def succLabel : Label → Label
  | .cSample => .cDecide
  | .cDecide => .cCommit
  | .sSetMo => .sWait
  | .sWait => .sSetOn
  | .sSetOn => .cCommit
  | .cCommit => .cDispatch
  | .cDispatch => .aFlashStart
  | .nSetMo => .nSetOn
  | .nSetOn => .nLoadPower
  | .nLoadPower => .nDispPower
  | .nDispPower => .nSetLed
  | .nSetLed => .cLoop
  | .iClrGate => .iClrOn
  | .iClrOn => .iWait
  | .iWait => .iClrMo
  | .iClrMo => .iLoadPower
  | .iLoadPower => .iDispPower
  | .iDispPower => .iClrLed
  | .iClrLed => .cLoop
  | .fClrGate => .fClrOn
  | .fClrOn => .fWait
  | .fWait => .fClrMo
  | .fClrMo => .fLoadRate
  | .fLoadRate => .fDispRate
  | .fDispRate => .fClrLed
  | .fClrLed => .cLoop
  | .aFlashStart => .aClrDisplay
  | .aClrDisplay => .aClrGate
  | .aClrGate => .aClrOn
  | .aClrOn => .aWait
  | .aWait => .aClrMo
  | .aClrMo => .aSetAlarmState
  | .aSetAlarmState => .cLoop
  | .cLoop => .cSample

/-- `MINDUR` of every micro-op but the two waits, in ticks (70_reset_and_hazards.md R225). -/
def minDur : Nat := 1

/-! ## Input ports (20_memory.md R51, R52) -/

/-- The four discrete levels as one vector, `{SW2_N, SW1_N, ALARM_MSB, ALARM_LSB}` (30_encoding.md R72). -/
def readDiscrete (i : Inputs) : BitVec 4 := i.sw2N ++ i.sw1N ++ i.alarmMsb ++ i.alarmLsb

/-- One reading of the dial, all eight bits (30_encoding.md R78). -/
def readDial (i : Inputs) : Byte := i.dial

/-- The levels after an input change: the ports named take their new level, the others keep theirs (30_encoding.md R83). -/
def changeInputs (c : InputChange) (i : Inputs) : Inputs :=
  { alarmLsb := c.alarmLsb.getD i.alarmLsb
    alarmMsb := c.alarmMsb.getD i.alarmMsb
    sw1N := c.sw1N.getD i.sw1N
    sw2N := c.sw2N.getD i.sw2N
    dial := c.dial.getD i.dial
    trigInN := c.trigInN.getD i.trigInN
    rst := c.rst.getD i.rst }

end Sys2Proof.Machine
end

