-- ==== Sys2Proof/Machine/State.lean ====
section
/-! DEFINITION. The state of the FLC core, the outcomes of a step, and the state after reset. -/

namespace Sys2Proof.Machine

/-- What the agents and the environment are asked to do next. -/
inductive Directive where
  /-- Take this step of a run as soon as it is enabled (20_memory.md R58, R60). -/
  | act (a : Act)
  /-- Perform the operation that this operation word names, as a whole (30_encoding.md R83; log 3, 6). -/
  | word (w : OpWord)
  deriving DecidableEq, Repr

/-- The registers of 10_state.md R20, and below them what the model holds beside the hardware. -/
structure State where
  /-- LaserPowerLevel (R22). -/
  powerLevel  : Byte
  /-- The rate reading, which fixes the pulse period (R23). -/
  rateR       : Byte
  /-- The label of the micro-op SEQ performs next (R29). -/
  seqPc       : Label
  /-- LaserTriggerEnabled, 1 = enabled (R25). -/
  gate        : Level
  /-- 1 once the flasher has been started (R26). -/
  aflRun      : Level
  /-- OperatingMode (R21). -/
  mode        : BitVec 3
  /-- AlarmState (R24). -/
  alarmState  : BitVec 3
  /-- Indicator LED, 1 = on (R27). -/
  led         : Level
  /-- The power pins, 0 = asserted (R27). -/
  pN          : Byte
  /-- MO-enable pin, 0 = asserted (R27). -/
  moEnN       : Level
  /-- ON-enable pin, 0 = asserted (R27). -/
  onEnN       : Level
  /-- Pulse pin (R27). -/
  pulse       : Level
  /-- Guide pin, 0 = guide beam on (R27). -/
  guideN      : Level
  /-- Laser-enable, logical: 1 = asserted (R27, D8). -/
  laserEn     : Level
  /-- Display code (R27). -/
  displayCode : BitVec 12
  /-- The latched discrete inputs `{sw2_n, sw1_n, a_msb, a_lsb}` (R30). -/
  samp        : BitVec 4
  /-- Ticks left before the next PULSE_TICK (R31). -/
  ppgCnt      : Nat
  /-- Ticks left before the next FLASH_TICK, meaningful while `aflRun` is 1 (R31). -/
  aflCnt      : Nat
  /-- Ticks that must pass before SEQ performs its next micro-op (R31). -/
  seqHold     : Nat
  /-- MODEL: the levels the environment drives on the input ports (R28; log 13). -/
  inp         : Inputs
  /-- MODEL: ticks since reset release, the observer's variable (R34; log 12). -/
  now         : Nat
  /-- MODEL: the level last put on the combinational candidate wire (R34; log 10). -/
  cand        : BitVec 3
  /-- MODEL: what is asked for next; when it is empty, the next step is a free value (log 1). -/
  agenda      : List Directive
  /-- MODEL: how many free values have been drawn (log 1). -/
  draws       : Nat
  /-- MODEL: what ENV does inside the composites to come, one move before each micro-op; when it is empty ENV does nothing
  there (20_memory.md R55; log 3). -/
  env         : List EnvMove
  /-- MODEL: for how many more free steps SEQ may be left waiting while it is enabled (20_memory.md R69; log 22). -/
  patience    : Nat
  deriving DecidableEq, Repr

/-- Faults: none. "No operation of this hardware can fail, trap or be refused" (60_exceptions.md R180), so no one raises
one; safe (log 23). -/
inductive Fault where
  deriving DecidableEq, Repr

/-- Why a step has no meaning. -/
inductive Refusal where
  /-- Raised by an arm of `exec` whose operation has no meaning yet: none is left; safe, the machine stops. -/
  | notModelled (mnemonic : String)
  /-- Raised by `step` for an agenda word that names no operation of the table; safe: the hardware has no such word, and no
  run whose agenda holds only steps of a run meets it (log 4, 23). -/
  | undefinedWord (w : OpWord)
  deriving DecidableEq, Repr

/-- The machine right after reset (10_state.md R35): the values the spec gives, the OPEN parameters, and named values for
`samp` and `afl_cnt`, to which it gives none (log 8, 9); the environment's levels are free, RST released (log 13). -/
def State.reset : State :=
  { powerLevel := 0x00#8
    rateR := Config.rateReset
    seqPc := .cSample
    gate := Config.gateReset
    aflRun := 0#1
    mode := 7#3
    alarmState := 0#3
    led := 0#1
    pN := 0xFF#8
    moEnN := 1#1
    onEnN := 1#1
    pulse := 0#1
    guideN := 0#1
    laserEn := 0#1
    displayCode := 0#12
    samp := 0#4
    ppgCnt := halfTicks Config.rateReset
    aflCnt := 0
    seqHold := 0
    inp := { Config.inputsAtReset with rst := 0#1 }
    now := 0
    cand := 3#3
    agenda := []
    draws := 0
    env := []
    patience := Config.patience 0 }

/-- What performing an operation answers. -/
abbrev Result := Host.Outcome State Fault Refusal

end Sys2Proof.Machine
end

