-- ==== Sys2Proof/Machine/Flags.lean ====
section
/-! DEFINITION. The two flags, `gate` and `afl_run` (10_state.md R25, R26), and the conditions computed from state: which
timer operation is due. No operation sets a flag as a side effect of computing something else (R26). -/

namespace Sys2Proof.Machine

/-- `gate <- 0`, the only write of the flag (40_mode_state_machine.md R111). -/
def clearGate (s : State) : State := { s with gate := 0#1 }

/-- Start the flasher if it is not running; a start while it runs changes nothing (44_alarm_actions.md R155). -/
def startFlasher (s : State) : State :=
  if s.aflRun = 0#1 then { s with aflRun := 1#1, aflCnt := oneSecTicks } else s

/-- The laser-enable level that a gate level gives (43_periodic_pulse_generator.md R141). -/
def laserEnOf (gate : Level) : Level := if gate = 0#1 then 0#1 else 1#1

/-- RST is high: RESET is selected (70_reset_and_hazards.md R200). -/
def resetHeld (s : State) : Bool := s.inp.rst == 1#1

/-- PULSE_TICK is due (20_memory.md R60). -/
def pulseDue (s : State) : Bool := s.ppgCnt == 0

/-- FLASH_TICK is due (20_memory.md R60). -/
def flashDue (s : State) : Bool := s.aflRun == 1#1 && s.aflCnt == 0

/-- A timer operation is due, so that time may not pass (20_memory.md R59). -/
def timerDue (s : State) : Bool := pulseDue s || flashDue s

end Sys2Proof.Machine
end

