-- ==== Sys2Proof/Machine/Ops.lean ====
section
/-! DEFINITION. The operations shared by the meanings: the common part of every micro-op, the register writes that touch
more than one register, the passing of time, and the entry into an action.

There is no memory (20_memory.md R50), so there is no operation on one. There is no exception either (60_exceptions.md R180);
what takes its place is the entry into the alarm action, `enterAction`, and there is no return operation (R186). -/

namespace Sys2Proof.Machine

/-- The common part of every micro-op: `seq_hold <- MINDUR(µop)`, `seq_pc <- successor`
(40_mode_state_machine.md R90). -/
def retire (dur : Nat) (next : Label) (s : State) : State := { s with seqHold := dur, seqPc := next }

/-- Put the candidate that `samp` selects on the candidate wire (40_mode_state_machine.md R92). -/
def settleCand (s : State) : State := { s with cand := candidate s.samp }

/-- `mode <- cand`, the only write of `mode` (40_mode_state_machine.md R101). -/
def writeMode (s : State) : State := { s with mode := s.cand }

/-- `power_level <- v; p_n <- ~v`, one act (41_power_level_encoder.md R121; format PWR8, 30_encoding.md R76). -/
def writePower (v : Byte) (s : State) : State := { s with powerLevel := v, pN := ~~~v }

/-- `rate_r <- r; ppg_cnt <- HALF_TICKS(r)`: the new period replaces the interval in progress
(42_pulse_rate_encoder.md R131, 43_periodic_pulse_generator.md R142). -/
def writeRate (r : Byte) (s : State) : State := { s with rateR := r, ppgCnt := halfTicks r }

/-- `display_code <- DISP(x)` (45_display_encoder.md R161). -/
def writeDisplay (x : Frac) (s : State) : State := { s with displayCode := disp x }

/-- `alarm_state <- label`; for a mode without a label the value written is free (44_alarm_actions.md R157; log 11). -/
def writeAlarmLabel (label : Option (BitVec 3)) (s : State) : State :=
  match label with
  | some v => { s with alarmState := v }
  | none => { s with alarmState := Config.freeLabel s.draws, draws := s.draws + 1 }

/-- Enter the action of the mode now held; the alarm modes enter the alarm action. Nothing is saved
(40_mode_state_machine.md R102, 60_exceptions.md R184). -/
def enterAction (s : State) : State := retire minDur (actionEntry s.mode) s

/-- One tick of the time base (20_memory.md R59, effect). A counter at 0 stays there: `ppg_cnt` and, while the flasher runs,
`afl_cnt` are above 0 whenever ADVANCE is enabled. -/
def passTick (s : State) : State :=
  { s with
    now := s.now + 1
    ppgCnt := s.ppgCnt - 1
    aflCnt := if s.aflRun = 1#1 then s.aflCnt - 1 else s.aflCnt
    seqHold := s.seqHold - 1 }

/-- PULSE_TICK, one act (43_periodic_pulse_generator.md R141). -/
def doPulseTick (s : State) : State :=
  { s with pulse := ~~~s.pulse, laserEn := laserEnOf s.gate, ppgCnt := halfTicks s.rateR }

/-- FLASH_TICK, one act (46_alarm_flasher.md R171). -/
def doFlashTick (s : State) : State := { s with led := ~~~s.led, aflCnt := oneSecTicks }

/-- PULSE_TICK is performed if it is due. -/
def firePulse (s : State) : State := if pulseDue s then doPulseTick s else s

/-- FLASH_TICK is performed if it is due. -/
def fireFlash (s : State) : State := if flashDue s then doFlashTick s else s

/-- The timer operations due now are performed; their order does not matter (20_memory.md R62). -/
def fireDue (s : State) : State := fireFlash (firePulse s)

/-- `n` ticks pass, every timer operation that falls due before the last of them being performed when due
(30_encoding.md R83 `ADV n`). -/
def elapse : Nat → State → State
  | 0, s => s
  | n + 1, s => elapse n (passTick (fireDue s))

/-- RESET: every register to its reset value, `now` to 0; the levels the environment drives, and the model's own fields,
stay (70_reset_and_hazards.md R200; log 17). -/
def doReset (s : State) : State :=
  { State.reset with inp := s.inp, agenda := s.agenda, draws := s.draws, env := s.env, patience := s.patience }

/-- SEQ comes to its next micro-op: `seq_hold` ticks pass and as many more as the free lag says (20_memory.md R69), and each
timer operation due at that tick goes first or not (R62). -/
def comeTo (τ : Nat → Lag) (s : State) : State :=
  let g := τ s.draws
  let s1 := elapse (s.seqHold + g.ticks) { s with draws := s.draws + 1 }
  let s2 := if g.pulseFirst then firePulse s1 else s1
  if g.flashFirst then fireFlash s2 else s2

/-- ENV makes its next move, then SEQ comes to its next micro-op (20_memory.md R55, R68). The answer is `.error` when a RESET
ends the sequence, by ENV's choice or because RST is now high (70_reset_and_hazards.md R200). At which tick of the
interval the levels change is not seen, since no timer operation reads an input. -/
def awaitSeq (τ : Nat → Lag) (s : State) : Except State State :=
  match s.env with
  | [] => .ok (comeTo τ s)
  | m :: rest =>
    let s1 := { s with inp := changeInputs m.change s.inp, env := rest }
    if m.reset || resetHeld s1 then .error (doReset s1) else .ok (comeTo τ s1)

/-- SEQ performs micro-ops one after another, coming to each as `τ` says, the timers and ENV acting in between (log 3);
`.error` holds the state of a RESET that ended the sequence before its last micro-op. -/
def performAll (τ : Nat → Lag) : List (State → State) → State → Except State State
  | [], s => .ok s
  | op :: ops, s => (awaitSeq τ s).bind fun t => performAll τ ops (op t)

/-- The state in which a sequence ends: after its last micro-op, or after the RESET that ended it. -/
def ended : Except State State → State
  | .ok s => s
  | .error s => s

end Sys2Proof.Machine
end

