-- ==== Sys2Proof/Machine/Candidate.lean ====
section
/-! DEFINITION. The IN4 rows: the six patterns of the sampled inputs, each giving its candidate mode
(40_mode_state_machine.md R93 to R98). `cand` is a wire, not a register: a row changes nothing else, and the bits it does not
examine change nothing. -/

namespace Sys2Proof.Machine

/-- CAND_ALARM_TEMP: `cand = 3` (R93). -/
def execCandAlarmTemp (_sw : BitVec 2) (s : State) : Result := .next { s with cand := 3#3 }

/-- CAND_ALARM_REFLECTION: `cand = 4` (R94). -/
def execCandAlarmReflection (_sw : BitVec 2) (s : State) : Result := .next { s with cand := 4#3 }

/-- CAND_ALARM_MO: `cand = 5` (R95). -/
def execCandAlarmMo (_sw : BitVec 2) (s : State) : Result := .next { s with cand := 5#3 }

/-- CAND_ON: `cand = 0`, whatever switch 2 reads (R96; 90_conflicts.md C2). -/
def execCandOn (_sw2 : Level) (s : State) : Result := .next { s with cand := 0#3 }

/-- CAND_OFF_SET_RATE: `cand = 2` (R97). -/
def execCandOffSetRate (s : State) : Result := .next { s with cand := 2#3 }

/-- CAND_IDLE: `cand = 1` (R98). -/
def execCandIdle (s : State) : Result := .next { s with cand := 1#3 }

end Sys2Proof.Machine
end

