-- ==== Sys2Proof/Machine/Alarm.lean ====
section
/-! DEFINITION. The micro-ops of the alarm action that no other action has (44_alarm_actions.md R155 to R157). -/

namespace Sys2Proof.Machine

/-- FLASH_START: start the flasher if it is not running (R155). -/
def doFlashStart (s : State) : State := retire minDur .aClrDisplay (startFlasher s)

/-- CLR_DISPLAY: `display_code <- 0`, written directly (R156, D27). -/
def doClrDisplay (s : State) : State := retire minDur .aClrGate { s with displayCode := 0#12 }

/-- The last act of the alarm action, with the label given: `alarm_state <- label` (R157). -/
def doAlarmLabel (label : Option (BitVec 3)) (s : State) : State := retire minDur .cLoop (writeAlarmLabel label s)

/-- SET_ALARM_STATE: `alarm_state <- LABEL(mode)` (R157). -/
def doSetAlarmState (s : State) : State := doAlarmLabel (alarmLabel s.mode) s

/-- The meaning of FLASH_START (R155). -/
def execFlashStart (s : State) : Result := .next (doFlashStart s)

/-- The meaning of CLR_DISPLAY (R156). -/
def execClrDisplay (s : State) : Result := .next (doClrDisplay s)

/-- The meaning of SET_ALARM_STATE (R157). -/
def execSetAlarmState (s : State) : Result := .next (doSetAlarmState s)

end Sys2Proof.Machine
end

