-- ==== Sys2Proof/Machine/Enables.lean ====
section
/-! DEFINITION. The single-write micro-ops of the enables, the gate and the LED (40_mode_state_machine.md R107 to R113). Each
writes its register unconditionally and, as every micro-op, moves to the successor of its label. -/

namespace Sys2Proof.Machine

/-- SET_MO: `mo_en_n <- 0` (R107). -/
def doSetMo (l : Label) (s : State) : State := retire minDur (succLabel l) { s with moEnN := 0#1 }

/-- SET_ON: `on_en_n <- 0` (R108). -/
def doSetOn (l : Label) (s : State) : State := retire minDur (succLabel l) { s with onEnN := 0#1 }

/-- CLR_ON: `on_en_n <- 1` (R109). -/
def doClrOn (l : Label) (s : State) : State := retire minDur (succLabel l) { s with onEnN := 1#1 }

/-- CLR_MO: `mo_en_n <- 1` (R110). -/
def doClrMo (l : Label) (s : State) : State := retire minDur (succLabel l) { s with moEnN := 1#1 }

/-- CLR_GATE: `gate <- 0`; `laser_en` is not touched (R111; 70_reset_and_hazards.md R208). -/
def doClrGate (l : Label) (s : State) : State := retire minDur (succLabel l) (clearGate s)

/-- SET_LED: `led <- 1` (R112). -/
def doSetLed (s : State) : State := retire minDur .cLoop { s with led := 1#1 }

/-- CLR_LED: `led <- 0` (R113). -/
def doClrLed (l : Label) (s : State) : State := retire minDur (succLabel l) { s with led := 0#1 }

/-- The meaning of SET_MO (R107). -/
def execSetMo (l : Label) (s : State) : Result := .next (doSetMo l s)

/-- The meaning of SET_ON (R108). -/
def execSetOn (l : Label) (s : State) : Result := .next (doSetOn l s)

/-- The meaning of CLR_ON (R109). -/
def execClrOn (l : Label) (s : State) : Result := .next (doClrOn l s)

/-- The meaning of CLR_MO (R110). -/
def execClrMo (l : Label) (s : State) : Result := .next (doClrMo l s)

/-- The meaning of CLR_GATE (R111). -/
def execClrGate (l : Label) (s : State) : Result := .next (doClrGate l s)

/-- The meaning of SET_LED (R112). -/
def execSetLed (s : State) : Result := .next (doSetLed s)

/-- The meaning of CLR_LED (R113). -/
def execClrLed (l : Label) (s : State) : Result := .next (doClrLed l s)

end Sys2Proof.Machine
end

