-- ==== Sys2Proof/Machine/Encoders.lean ====
section
/-! DEFINITION. The micro-ops of the Power-Level Encoder and the Pulse-Rate Encoder (41_power_level_encoder.md R121, R122;
42_pulse_rate_encoder.md R131, R132). The dial is read once, by the LOAD; the DISP uses the stored reading. -/

namespace Sys2Proof.Machine

/-- LOAD_POWER: the dial into `power_level` and, complemented, onto the power pins (R121). -/
def doLoadPower (l : Label) (s : State) : State :=
  retire minDur (succLabel l) (writePower (readDial s.inp) s)

/-- DISP_POWER: `display_code <- DISP(PWR_MV(power_level))` (R122). -/
def doDispPower (l : Label) (s : State) : State :=
  retire minDur (succLabel l) (writeDisplay (pwrMv s.powerLevel) s)

/-- LOAD_RATE: the dial into `rate_r`, and the pulse interval restarts (R131). -/
def doLoadRate (s : State) : State := retire minDur .fDispRate (writeRate (readDial s.inp) s)

/-- DISP_RATE: `display_code <- DISP(RATE_DISP(rate_r))` (R132). -/
def doDispRate (s : State) : State := retire minDur .fClrLed (writeDisplay (rateDisp s.rateR) s)

/-- The meaning of LOAD_POWER (R121). -/
def execLoadPower (l : Label) (s : State) : Result := .next (doLoadPower l s)

/-- The meaning of DISP_POWER (R122). -/
def execDispPower (l : Label) (s : State) : Result := .next (doDispPower l s)

/-- The meaning of LOAD_RATE (R131). -/
def execLoadRate (s : State) : Result := .next (doLoadRate s)

/-- The meaning of DISP_RATE (R132). -/
def execDispRate (s : State) : Result := .next (doDispRate s)

end Sys2Proof.Machine
end

