-- ==== Sys2Proof/Machine/Sequencer.lean ====
section
/-! DEFINITION. The micro-ops of the control cycle: sampling, deciding, committing, dispatching, looping and waiting
(40_mode_state_machine.md). Each `do…` is the act on the state, each `exec…` the meaning of the table's row. -/

namespace Sys2Proof.Machine

/-- SAMPLE: all four discrete levels in one act (R91). -/
def doSample (s : State) : State := retire minDur .cDecide { s with samp := readDiscrete s.inp }

/-- DECIDE: to the startup sequence if `start_seq`, else to COMMIT (R99). -/
def doDecide (s : State) : State :=
  let s1 := settleCand s
  retire minDur (if startSeq s1.cand s1.mode then .sSetMo else .cCommit) s1

/-- COMMIT: `mode <- cand` (R101). -/
def doCommit (s : State) : State := retire minDur .cDispatch (writeMode (settleCand s))

/-- DISPATCH: to the action of `mode` (R102). -/
def doDispatch (s : State) : State := enterAction s

/-- LOOP: back to SAMPLE, nothing else (R116). -/
def doLoop (s : State) : State := retire minDur .cSample s

/-- WAIT_5MS: `seq_hold <- WAIT5_TICKS` (R114). -/
def doWait5ms (s : State) : State := retire wait5Ticks .sSetOn s

/-- WAIT_1MS at the label `l`: `seq_hold <- WAIT1_TICKS` (R115). -/
def doWait1ms (l : Label) (s : State) : State := retire wait1Ticks (succLabel l) s

/-- The meaning of SAMPLE (R91). -/
def execSample (s : State) : Result := .next (doSample s)

/-- The meaning of DECIDE (R99). -/
def execDecide (s : State) : Result := .next (doDecide s)

/-- The meaning of COMMIT (R101). -/
def execCommit (s : State) : Result := .next (doCommit s)

/-- The meaning of DISPATCH (R102). -/
def execDispatch (s : State) : Result := .next (doDispatch s)

/-- The meaning of LOOP (R116). -/
def execLoop (s : State) : Result := .next (doLoop s)

/-- The meaning of WAIT_5MS (R114). -/
def execWait5ms (s : State) : Result := .next (doWait5ms s)

/-- The meaning of WAIT_1MS (R115). -/
def execWait1ms (l : Label) (s : State) : Result := .next (doWait1ms l s)

end Sys2Proof.Machine
end

