-- ==== Sys2Proof/Machine/Composite.lean ====
section
/-! DEFINITION. The composites and the MODE3 actions, each the micro-ops of its expansion (30_encoding.md R82) performed in
order by SEQ.

A composite is not atomic (20_memory.md R55): between its micro-ops time passes, the timers fire, ENV changes the inputs or
resets the core, and SEQ takes as long as it likes. Its meaning is what has been done when the last micro-op is performed,
or when a RESET ended it before, for a free lag before each micro-op, a free order at a shared tick, and the moves of ENV
that `State.env` holds (log 3). `step` on a run never performs a composite: there each micro-op is a step of its own. SEQ is
taken to be at the composite's first label. -/

namespace Sys2Proof.Machine

/-! ## Expansions -/

/-- STARTUP_SEQ: SET_MO, WAIT_5MS, SET_ON (40_mode_state_machine.md R100). -/
def startupOps : List (State → State) := [doSetMo .sSetMo, doWait5ms, doSetOn .sSetOn]

/-- SHUTDOWN_SEQ at the labels from `l` on: CLR_GATE, CLR_ON, WAIT_1MS, CLR_MO (40_mode_state_machine.md R106). -/
def shutdownOps (l : Label) : List (State → State) :=
  [doClrGate l, doClrOn (succLabel l), doWait1ms (succLabel (succLabel l)),
   doClrMo (succLabel (succLabel (succLabel l)))]

/-- POWER_ENCODE at the labels from `l` on: LOAD_POWER, DISP_POWER (41_power_level_encoder.md R120). -/
def powerOps (l : Label) : List (State → State) := [doLoadPower l, doDispPower (succLabel l)]

/-- RATE_ENCODE: LOAD_RATE, DISP_RATE (42_pulse_rate_encoder.md R130). -/
def rateOps : List (State → State) := [doLoadRate, doDispRate]

/-- RUN_ON: SET_MO, SET_ON, POWER_ENCODE, SET_LED (40_mode_state_machine.md R103). -/
def runOnOps : List (State → State) := [doSetMo .nSetMo, doSetOn .nSetOn] ++ powerOps .nLoadPower ++ [doSetLed]

/-- RUN_IDLE: SHUTDOWN_SEQ, POWER_ENCODE, CLR_LED (40_mode_state_machine.md R104). -/
def runIdleOps : List (State → State) := shutdownOps .iClrGate ++ powerOps .iLoadPower ++ [doClrLed .iClrLed]

/-- RUN_OFF_SET_RATE: SHUTDOWN_SEQ, RATE_ENCODE, CLR_LED (40_mode_state_machine.md R105). -/
def runOffSetRateOps : List (State → State) := shutdownOps .fClrGate ++ rateOps ++ [doClrLed .fClrLed]

/-- ALARM_ACTION with its last act given: FLASH_START, CLR_DISPLAY, SHUTDOWN_SEQ, then the label
(44_alarm_actions.md R150). -/
def alarmOps (last : State → State) : List (State → State) :=
  [doFlashStart, doClrDisplay] ++ shutdownOps .aClrGate ++ [last]

/-- The action of a mode, as DISPATCH selects it (30_encoding.md R71). -/
def actionOps (mode : BitVec 3) : List (State → State) :=
  if mode = 0#3 then runOnOps
  else if mode = 1#3 then runIdleOps
  else if mode = 2#3 then runOffSetRateOps
  else alarmOps doSetAlarmState

/-- NEXTMODE: SAMPLE, DECIDE, STARTUP_SEQ if the startup condition holds, COMMIT (40_mode_state_machine.md R92). -/
def nextModeRun (τ : Nat → Lag) (s : State) : Except State State :=
  (performAll τ [doSample, doDecide] s).bind fun t =>
    performAll τ ((if t.seqPc = .sSetMo then startupOps else []) ++ [doCommit]) t

/-- CONTROL_CYCLE: NEXTMODE, DISPATCH, the selected action, LOOP (40_mode_state_machine.md R90). -/
def controlCycleRun (τ : Nat → Lag) (s : State) : Except State State :=
  (nextModeRun τ s).bind fun t => performAll τ ([doDispatch] ++ actionOps t.mode ++ [doLoop]) t

/-! ## Meanings -/

/-- The meaning of RUN_ON (40_mode_state_machine.md R103). -/
def execRunOn (s : State) : Result := .next (ended (performAll Config.lag runOnOps s))

/-- The meaning of RUN_IDLE (40_mode_state_machine.md R104). -/
def execRunIdle (s : State) : Result := .next (ended (performAll Config.lag runIdleOps s))

/-- The meaning of RUN_OFF_SET_RATE (40_mode_state_machine.md R105). -/
def execRunOffSetRate (s : State) : Result := .next (ended (performAll Config.lag runOffSetRateOps s))

/-- The meaning of RUN_ALARM_TEMP: the alarm action with the label of mode 3, TEMPERATURE (44_alarm_actions.md R151). -/
def execRunAlarmTemp (s : State) : Result :=
  .next (ended (performAll Config.lag (alarmOps (doAlarmLabel (alarmLabel 3#3))) s))

/-- The meaning of RUN_ALARM_REFLECTION: the label of mode 4, REFLECTION (44_alarm_actions.md R152). -/
def execRunAlarmReflection (s : State) : Result :=
  .next (ended (performAll Config.lag (alarmOps (doAlarmLabel (alarmLabel 4#3))) s))

/-- The meaning of RUN_ALARM_MO: the label of mode 5, MO (44_alarm_actions.md R153). -/
def execRunAlarmMo (s : State) : Result :=
  .next (ended (performAll Config.lag (alarmOps (doAlarmLabel (alarmLabel 5#3))) s))

/-- The meaning of RUN_ALARM_RESERVED: the label of modes 6 and 7, RESERVED (44_alarm_actions.md R154). -/
def execRunAlarmReserved (x : Level) (s : State) : Result :=
  .next (ended (performAll Config.lag (alarmOps (doAlarmLabel (alarmLabel ((0b11#2 : BitVec 2) ++ x)))) s))

/-- The meaning of NEXTMODE (40_mode_state_machine.md R92). -/
def execNextMode (s : State) : Result := .next (ended (nextModeRun Config.lag s))

/-- The meaning of STARTUP_SEQ (40_mode_state_machine.md R100). -/
def execStartupSeq (s : State) : Result := .next (ended (performAll Config.lag startupOps s))

/-- The meaning of SHUTDOWN_SEQ (40_mode_state_machine.md R106). -/
def execShutdownSeq (l : Label) (s : State) : Result := .next (ended (performAll Config.lag (shutdownOps l) s))

/-- The meaning of POWER_ENCODE (41_power_level_encoder.md R120). -/
def execPowerEncode (l : Label) (s : State) : Result := .next (ended (performAll Config.lag (powerOps l) s))

/-- The meaning of RATE_ENCODE (42_pulse_rate_encoder.md R130). -/
def execRateEncode (s : State) : Result := .next (ended (performAll Config.lag rateOps s))

/-- The meaning of ALARM_ACTION (44_alarm_actions.md R150). -/
def execAlarmAction (s : State) : Result := .next (ended (performAll Config.lag (alarmOps doSetAlarmState) s))

/-- The meaning of CONTROL_CYCLE (40_mode_state_machine.md R90). -/
def execControlCycle (s : State) : Result := .next (ended (controlCycleRun Config.lag s))

end Sys2Proof.Machine
end

