-- ==== Sys2Proof/Machine/Event.lean ====
section
/-! DEFINITION. The event operations: the two timer ticks, the passing of a tick, and reset (30_encoding.md R84). -/

namespace Sys2Proof.Machine

/-- ADVANCE: one tick passes, if no timer operation is due; while one is due it is disabled and time does not move
(20_memory.md R59; log 15). -/
def doAdvance (s : State) : State := if timerDue s then s else passTick s

/-- The meaning of PULSE_TICK (43_periodic_pulse_generator.md R141). -/
def execPulseTick (s : State) : Result := .next (doPulseTick s)

/-- The meaning of FLASH_TICK (46_alarm_flasher.md R171). -/
def execFlashTick (s : State) : Result := .next (doFlashTick s)

/-- The meaning of ADVANCE (20_memory.md R59). -/
def execAdvance (s : State) : Result := .next (doAdvance s)

/-- The meaning of RESET (70_reset_and_hazards.md R200). -/
def execReset (s : State) : Result := .next (doReset s)

end Sys2Proof.Machine
end

