-- ==== Sys2Proof/Machine/Dispatch.lean ====
section
/-! DEFINITION. What performing each operation does, one arm per row of the opcode table. -/

namespace Sys2Proof.Machine

def exec (i : Instr) (s : State) : Host.Outcome State Fault Refusal :=
  match i with
  | .runOn => Sys2Proof.Machine.execRunOn s
  | .runIdle => Sys2Proof.Machine.execRunIdle s
  | .runOffSetRate => Sys2Proof.Machine.execRunOffSetRate s
  | .runAlarmTemp => Sys2Proof.Machine.execRunAlarmTemp s
  | .runAlarmReflection => Sys2Proof.Machine.execRunAlarmReflection s
  | .runAlarmMo => Sys2Proof.Machine.execRunAlarmMo s
  | .runAlarmReserved x => Sys2Proof.Machine.execRunAlarmReserved x s
  | .candAlarmTemp sw => Sys2Proof.Machine.execCandAlarmTemp sw s
  | .candAlarmReflection sw => Sys2Proof.Machine.execCandAlarmReflection sw s
  | .candAlarmMo sw => Sys2Proof.Machine.execCandAlarmMo sw s
  | .candOn sw2 => Sys2Proof.Machine.execCandOn sw2 s
  | .candOffSetRate => Sys2Proof.Machine.execCandOffSetRate s
  | .candIdle => Sys2Proof.Machine.execCandIdle s
  | .sample => Sys2Proof.Machine.execSample s
  | .decide => Sys2Proof.Machine.execDecide s
  | .setMo l => Sys2Proof.Machine.execSetMo l s
  | .setOn l => Sys2Proof.Machine.execSetOn l s
  | .clrOn l => Sys2Proof.Machine.execClrOn l s
  | .clrMo l => Sys2Proof.Machine.execClrMo l s
  | .clrGate l => Sys2Proof.Machine.execClrGate l s
  | .setLed => Sys2Proof.Machine.execSetLed s
  | .clrLed l => Sys2Proof.Machine.execClrLed l s
  | .wait5ms => Sys2Proof.Machine.execWait5ms s
  | .wait1ms l => Sys2Proof.Machine.execWait1ms l s
  | .commit => Sys2Proof.Machine.execCommit s
  | .dispatch => Sys2Proof.Machine.execDispatch s
  | .loop => Sys2Proof.Machine.execLoop s
  | .loadPower l => Sys2Proof.Machine.execLoadPower l s
  | .dispPower l => Sys2Proof.Machine.execDispPower l s
  | .loadRate => Sys2Proof.Machine.execLoadRate s
  | .dispRate => Sys2Proof.Machine.execDispRate s
  | .flashStart => Sys2Proof.Machine.execFlashStart s
  | .clrDisplay => Sys2Proof.Machine.execClrDisplay s
  | .setAlarmState => Sys2Proof.Machine.execSetAlarmState s
  | .nextMode => Sys2Proof.Machine.execNextMode s
  | .startupSeq => Sys2Proof.Machine.execStartupSeq s
  | .shutdownSeq l => Sys2Proof.Machine.execShutdownSeq l s
  | .powerEncode l => Sys2Proof.Machine.execPowerEncode l s
  | .rateEncode => Sys2Proof.Machine.execRateEncode s
  | .alarmAction => Sys2Proof.Machine.execAlarmAction s
  | .controlCycle => Sys2Proof.Machine.execControlCycle s
  | .pulseTick => Sys2Proof.Machine.execPulseTick s
  | .flashTick => Sys2Proof.Machine.execFlashTick s
  | .advance => Sys2Proof.Machine.execAdvance s
  | .reset => Sys2Proof.Machine.execReset s

end Sys2Proof.Machine
end

