-- ==== Sys2Proof/Machine/Schedule.lean ====
section
/-! DEFINITION. Which step comes next: the enabling conditions (20_memory.md R60), what happens while a wanted step is not
enabled, and where an operation word is placed for the next step. -/

namespace Sys2Proof.Machine

/-- The registers and `now` are as RESET leaves them, whatever the input levels and the model's own fields hold. -/
def atReset (s : State) : Bool :=
  { s with agenda := [], draws := 0, env := [], patience := 0 } ==
    { State.reset with inp := s.inp, agenda := [], draws := 0, env := [], patience := 0 }

/-- When each step of a run is enabled (20_memory.md R60, R59). While RST is high RESET alone is performed
(70_reset_and_hazards.md R200); once it has been, the input levels may change too, or RST could not go low (log 16). So a
run begins anew at each release of RST, from the reset values. -/
def enabled (a : Act) (s : State) : Bool :=
  match a with
  | .seq => !resetHeld s && s.seqHold == 0
  | .pulseTick => !resetHeld s && pulseDue s
  | .flashTick => !resetHeld s && flashDue s
  | .advance => !resetHeld s && !timerDue s
  | .reset => true
  | .input _ => !resetHeld s || atReset s

/-- The step taken while a wanted one is not enabled, always an enabled one: RESET while RST is high, else the timer
operation that is due, else ADVANCE (log 2). -/
def waiting (s : State) : Act :=
  if resetHeld s then .reset
  else if pulseDue s then .pulseTick
  else if flashDue s then .flashTick
  else .advance

/-- A step of a run: SEQ performs the micro-op at `seq_pc` (20_memory.md R60), a timer its operation, the environment its
change of inputs. -/
def perform (a : Act) (s : State) : Result :=
  match a with
  | .seq => exec (uopAt s.seqPc) s
  | .pulseTick => exec .pulseTick s
  | .flashTick => exec .flashTick s
  | .advance => exec .advance s
  | .reset => exec .reset s
  | .input c => .next { s with inp := changeInputs c s.inp }

/-- The step freely chosen: SEQ if it is enabled and may be left waiting no longer (20_memory.md R69; log 22), else what
`Config.choice` says, or if that is not enabled the waiting step. -/
def freeAct (s : State) : Act :=
  if enabled .seq s && s.patience == 0 then .seq
  else if enabled (Config.choice s.draws) s then Config.choice s.draws
  else waiting s

/-- For how many more free steps SEQ may be left waiting: one fewer each time it is passed over, a new free value when it
moves (log 22). -/
def freePatience (s : State) : Nat :=
  if freeAct s = .seq then Config.patience s.draws else if enabled .seq s then s.patience - 1 else s.patience

/-- The next step is a free value (20_memory.md R58, R62, R68, R69; log 1). -/
def stepFree (s : State) : Result :=
  perform (freeAct s) { s with draws := s.draws + 1, patience := freePatience s }

/-- The head of the agenda asks for the step `a`: it is taken as soon as it is enabled, and until then stays there. While a
FLASH_TICK is asked for and the flasher is off, waiting alone would never bring it, and the steps are free (log 2). -/
def stepAct (a : Act) (rest : List Directive) (s : State) : Result :=
  if enabled a s then perform a { s with agenda := rest }
  else if a = .flashTick ∧ s.aflRun = 0#1 then stepFree s
  else perform (waiting s) s

/-- The head of the agenda is an operation word: the operation it names is performed; while RST is high it waits. -/
def stepWord (w : OpWord) (rest : List Directive) (s : State) : Result :=
  if resetHeld s then perform .reset s
  else
    match decode (wordBytes w) with
    | .ok (i, _) => exec i { s with agenda := rest }
    | .error _ => .refused (.undefinedWord w)

/-- The register that carries a format's word takes it: `mode` a MODE3 value, `samp` an IN4 value (30_encoding.md R70). -/
def carryWord (w : OpWord) (s : State) : State :=
  match decode (wordBytes w) with
  | .ok (.runOn, _) | .ok (.runIdle, _) | .ok (.runOffSetRate, _) | .ok (.runAlarmTemp, _)
  | .ok (.runAlarmReflection, _) | .ok (.runAlarmMo, _) | .ok (.runAlarmReserved _, _) =>
    { s with mode := w.extractLsb' 0 3 }
  | .ok (.candAlarmTemp _, _) | .ok (.candAlarmReflection _, _) | .ok (.candAlarmMo _, _) | .ok (.candOn _, _)
  | .ok (.candOffSetRate, _) | .ok (.candIdle, _) => { s with samp := w.extractLsb' 0 4 }
  | _ => s

/-- Place the bits of a table row so that the next step performs the operation they name: in the register that carries the
format, and at the head of the agenda, with RST released (log 6). Bits too long for a word change nothing. -/
def placeWord (nbits w : Nat) (s : State) : State :=
  match tableWord nbits w with
  | some v =>
    { carryWord v s with
      inp := { s.inp with rst := 0#1 }
      agenda := [.word v] }
  | none => s

end Sys2Proof.Machine
end

