-- ==== Sys2Proof/Machine/Step.lean ====
section
/-! DEFINITION. One step of the machine. -/

namespace Sys2Proof.Machine

/-- One step: what the agenda asks for first, or, when it is empty, a free choice among the steps of a run
(20_memory.md R58). -/
def step (s : State) : Host.Outcome State Fault Refusal :=
  match s.agenda with
  | [] => stepFree s
  | .act a :: rest => stepAct a rest s
  | .word w :: rest => stepWord w rest s

/-- `s` with the operation whose table bits are `w` placed so that the very next step runs it (log 6). -/
def State.withFetchWord (s : State) (nbits w : Nat) : State := placeWord nbits w s

end Sys2Proof.Machine
end

