-- ==== Sys2Proof/Machine/Ports.lean ====
section
/-! DEFINITION. The output ports and the levels they show (20_memory.md R51, 60_exceptions.md R193,
70_reset_and_hazards.md R200, R201). -/

namespace Sys2Proof.Machine

/-- The levels on the output ports. -/
structure Outputs where
  led       : Level
  pN        : Byte
  moEnN     : Level
  onEnN     : Level
  pulse     : Level
  guideN    : Level
  display   : BitVec 12
  laserEn   : Level
  statMode  : BitVec 3
  statAlarm : BitVec 3
  statPower : Byte
  deriving DecidableEq, Repr

/-- The level on the LASER_EN pin for a logical value: inverted when the pin is active low (R51). -/
def laserEnPin (activeLow : Bool) (laserEn : Level) : Level := if activeLow then ~~~laserEn else laserEn

/-- What the output ports show while RST is low: each port the register behind it (R51, R52), the status ports the values the
debug line would report (R193). -/
def shownLevels (s : State) : Outputs :=
  { led := s.led
    pN := s.pN
    moEnN := s.moEnN
    onEnN := s.onEnN
    pulse := s.pulse
    guideN := s.guideN
    display := s.displayCode
    laserEn := laserEnPin Config.laserEnActiveLow s.laserEn
    statMode := s.mode
    statAlarm := s.alarmState
    statPower := s.powerLevel }

/-- What the output ports show: while RST is high their reset levels, from the moment it rises (70_reset_and_hazards.md R200,
R201), else the registers. -/
def outputs (s : State) : Outputs := shownLevels (if resetHeld s then doReset s else s)

end Sys2Proof.Machine
end

