-- ==== Sys2Proof/Machine/Script.lean ====
section
/-! DEFINITION. The script notation (30_encoding.md R83): each stimulus statement as agenda entries. EXPECT and comments
stimulate nothing and have none. -/

namespace Sys2Proof.Machine

/-- The stimulus statements of R83. -/
inductive Stmt where
  /-- `RESET` -/
  | reset
  /-- `SET PORT=value ...`: one input-change step. -/
  | set (c : InputChange)
  /-- `UOP name`: SEQ performs its next micro-op; naming it is the script's claim, not a stimulus. -/
  | uop
  /-- `CYCLE`: SEQ performs micro-ops from SAMPLE up to and including LOOP. -/
  | cycle
  /-- `PTICK` -/
  | ptick
  /-- `FTICK` -/
  | ftick
  /-- `ADV n` -/
  | adv (n : Nat)
  deriving DecidableEq, Repr

/-- What a statement asks of the machine. A step asked for before it is enabled waits, time passing and due timer
operations being performed on the way, as R83 says of UOP, PTICK, FTICK and ADV. -/
def agendaOf : Stmt → List Directive
  | .reset => [.act .reset]
  | .set c => [.act (.input c)]
  | .uop => [.act .seq]
  | .cycle => [.word (encode .controlCycle)]
  | .ptick => [.act .pulseTick]
  | .ftick => [.act .flashTick]
  | .adv n => List.replicate n (.act .advance)

/-- A script: its statements one after another. -/
def scriptAgenda (p : List Stmt) : List Directive := p.flatMap agendaOf

end Sys2Proof.Machine
end

