-- ==== Sys2Proof/Safety.lean ====
section
/-! DEFINITION. What the claims speak of: runs whose agenda holds only steps of a run, the invariants of 70_reset_and_hazards.md
and 10_state.md, which operation owns which register, and the clocks that measure the two sequences. -/

namespace Sys2Proof.Machine

/-- The agenda asks only for steps of a run (20_memory.md R58): it holds no operation word. -/
def onlyActs (s : State) : Bool :=
  s.agenda.all fun d =>
    match d with
    | .act _ => true
    | .word _ => false

/-- ENV makes no RESET inside the composites to come, neither by a move of its own nor through RST (20_memory.md R55,
70_reset_and_hazards.md R200). -/
abbrev noResetInside (s : State) : Prop :=
  s.env = [] ∨ (s.inp.rst = 0#1 ∧ ∀ m ∈ s.env, m.reset = false ∧ m.change.rst ≠ some 1#1)

/-- The state with every register to which the spec gives a reset value at that value, and `now` at 0 (10_state.md R35;
70_reset_and_hazards.md R200); `samp`, `afl_cnt` and the candidate wire, to which it gives none, as given; the input levels
and the model's own fields as in `s`. -/
def resetValues (samp : BitVec 4) (aflCnt : Nat) (cand : BitVec 3) (s : State) : State :=
  { s with
    powerLevel := 0#8, rateR := Config.rateReset, seqPc := .cSample, gate := Config.gateReset, aflRun := 0#1
    mode := 7#3, alarmState := 0#3, led := 0#1, pN := 0xFF#8, moEnN := 1#1, onEnN := 1#1, pulse := 0#1
    guideN := 0#1, laserEn := 0#1, displayCode := 0#12, samp := samp
    ppgCnt := halfTicks Config.rateReset, aflCnt := aflCnt, seqHold := 0, now := 0, cand := cand }

/-- The power pins are the complement of the power level (10_state.md R33). -/
abbrev powerMirror (s : State) : Prop := s.pN = ~~~s.powerLevel

/-- Every counter is in its range (10_state.md R31; 70_reset_and_hazards.md R218). `afl_cnt` is meaningful only while the
flasher runs. -/
abbrev countersInRange (s : State) : Prop :=
  s.ppgCnt ≤ halfTicks 0#8 ∧ (s.aflRun = 1#1 → s.aflCnt ≤ oneSecTicks) ∧ s.seqHold ≤ wait5Ticks

/-- MO-enable is asserted at the labels that follow a SET_MO and have a SET_ON to come or just done. -/
def moAssertedAt (l : Label) : Bool := l == .sWait || l == .sSetOn || l == .nSetOn

/-- ON-enable is de-asserted at the labels between a CLR_ON and its CLR_MO. -/
def onClearedAt (l : Label) : Bool :=
  l == .iWait || l == .iClrMo || l == .fWait || l == .fClrMo || l == .aWait || l == .aClrMo

/-- ON-enable is never asserted while MO-enable is de-asserted, with the positions of SEQ that make this inductive
(70_reset_and_hazards.md R204 item 1). -/
abbrev interlock (s : State) : Prop :=
  (s.onEnN = 0#1 → s.moEnN = 0#1) ∧
  (moAssertedAt s.seqPc = true → s.moEnN = 0#1) ∧
  (onClearedAt s.seqPc = true → s.onEnN = 1#1)

/-- The modes SEQ may hold at each label: in the block of an action, the modes DISPATCH sends there; in the startup
sequence, IDLE or OFF_SET_RATE; after COMMIT, a mode that COMMIT writes; before it, any but 6 (40_mode_state_machine.md
R90, R99, R102, R118; 10_state.md R37). -/
def modeFits (l : Label) (mode : BitVec 3) : Bool :=
  match l with
  | .cSample | .cDecide | .cCommit => mode != 6#3
  | .sSetMo | .sWait | .sSetOn => mode == 1#3 || mode == 2#3
  | .cDispatch | .cLoop => mode != 6#3 && mode != 7#3
  | .nSetMo | .nSetOn | .nLoadPower | .nDispPower | .nSetLed => mode == 0#3
  | .iClrGate | .iClrOn | .iWait | .iClrMo | .iLoadPower | .iDispPower | .iClrLed => mode == 1#3
  | .fClrGate | .fClrOn | .fWait | .fClrMo | .fLoadRate | .fDispRate | .fClrLed => mode == 2#3
  | .aFlashStart | .aClrDisplay | .aClrGate | .aClrOn | .aWait | .aClrMo | .aSetAlarmState =>
    mode == 3#3 || mode == 4#3 || mode == 5#3

/-- The mode fits the position of SEQ, and `alarm_state` is NONE, TEMPERATURE, REFLECTION or MO (10_state.md R37). -/
abbrev modeLegal (s : State) : Prop :=
  modeFits s.seqPc s.mode = true ∧ s.alarmState.toNat ≤ 3

/-- A set gate and an asserted laser-enable come from GATE_RESET and from nowhere else (70_reset_and_hazards.md R207). -/
abbrev gateFromReset (s : State) : Prop :=
  (s.gate = 1#1 → Config.gateReset = 1#1) ∧ (s.laserEn = 1#1 → Config.gateReset = 1#1)

/-- In the startup sequence begun by a SET_MO performed at the tick `t0`, SEQ cannot come to WAIT_5MS before `t0 + 1` nor to
SET_ON before `t0 + 1 + WAIT5_TICKS` (70_reset_and_hazards.md R204 item 2). -/
abbrev startupClock (t0 : Nat) (s : State) : Prop :=
  (s.seqPc = .sWait → t0 + 1 ≤ s.now + s.seqHold) ∧
  (s.seqPc = .sSetOn → t0 + 1 + wait5Ticks ≤ s.now + s.seqHold)

/-- The labels of WAIT_1MS. -/
def atShutdownWait (l : Label) : Bool := l == .iWait || l == .fWait || l == .aWait

/-- The labels of CLR_MO. -/
def atClrMo (l : Label) : Bool := l == .iClrMo || l == .fClrMo || l == .aClrMo

/-- In the shutdown sequence whose CLR_ON was performed at the tick `t0`, SEQ cannot come to WAIT_1MS before `t0 + 1` nor to
CLR_MO before `t0 + 1 + WAIT1_TICKS` (70_reset_and_hazards.md R204 item 3). -/
abbrev shutdownClock (t0 : Nat) (s : State) : Prop :=
  (atShutdownWait s.seqPc = true → t0 + 1 ≤ s.now + s.seqHold) ∧
  (atClrMo s.seqPc = true → t0 + 1 + wait1Ticks ≤ s.now + s.seqHold)

/-- The registers of 10_state.md R20. -/
inductive Reg where
  | powerLevel | rateR | seqPc | gate | aflRun | mode | alarmState | led | pN | moEnN | onEnN | pulse | guideN
  | laserEn | displayCode | samp | ppgCnt | aflCnt | seqHold
  deriving DecidableEq, Repr

/-- The register holds the same value in both states. -/
def sameReg (r : Reg) (s t : State) : Prop :=
  match r with
  | .powerLevel => t.powerLevel = s.powerLevel
  | .rateR => t.rateR = s.rateR
  | .seqPc => t.seqPc = s.seqPc
  | .gate => t.gate = s.gate
  | .aflRun => t.aflRun = s.aflRun
  | .mode => t.mode = s.mode
  | .alarmState => t.alarmState = s.alarmState
  | .led => t.led = s.led
  | .pN => t.pN = s.pN
  | .moEnN => t.moEnN = s.moEnN
  | .onEnN => t.onEnN = s.onEnN
  | .pulse => t.pulse = s.pulse
  | .guideN => t.guideN = s.guideN
  | .laserEn => t.laserEn = s.laserEn
  | .displayCode => t.displayCode = s.displayCode
  | .samp => t.samp = s.samp
  | .ppgCnt => t.ppgCnt = s.ppgCnt
  | .aflCnt => t.aflCnt = s.aflCnt
  | .seqHold => t.seqHold = s.seqHold

/-- A micro-operation of SEQ. -/
def isUop : Instr → Bool
  | .sample | .decide | .setMo _ | .setOn _ | .clrOn _ | .clrMo _ | .clrGate _ | .setLed | .clrLed _ | .wait5ms
  | .wait1ms _ | .commit | .dispatch | .loop | .loadPower _ | .dispPower _ | .loadRate | .dispRate | .flashStart
  | .clrDisplay | .setAlarmState => true
  | .runOn | .runIdle | .runOffSetRate | .runAlarmTemp | .runAlarmReflection | .runAlarmMo | .runAlarmReserved _
  | .candAlarmTemp _ | .candAlarmReflection _ | .candAlarmMo _ | .candOn _ | .candOffSetRate | .candIdle
  | .nextMode | .startupSeq | .shutdownSeq _ | .powerEncode _ | .rateEncode | .alarmAction | .controlCycle
  | .pulseTick | .flashTick | .advance | .reset => false

/-- A composite: a MODE3 action or a named sequence. -/
def isComposite : Instr → Bool
  | .runOn | .runIdle | .runOffSetRate | .runAlarmTemp | .runAlarmReflection | .runAlarmMo | .runAlarmReserved _
  | .nextMode | .startupSeq | .shutdownSeq _ | .powerEncode _ | .rateEncode | .alarmAction | .controlCycle => true
  | .sample | .decide | .setMo _ | .setOn _ | .clrOn _ | .clrMo _ | .clrGate _ | .setLed | .clrLed _ | .wait5ms
  | .wait1ms _ | .commit | .dispatch | .loop | .loadPower _ | .dispPower _ | .loadRate | .dispRate | .flashStart
  | .clrDisplay | .setAlarmState
  | .candAlarmTemp _ | .candAlarmReflection _ | .candAlarmMo _ | .candOn _ | .candOffSetRate | .candIdle
  | .pulseTick | .flashTick | .advance | .reset => false

/-- The second column of the ownership table: which operations but RESET write a register (10_state.md R32). -/
def writesReg (i : Instr) (r : Reg) : Bool :=
  match r with
  | .mode => i == .commit
  | .powerLevel | .pN => i == .loadPower .nLoadPower || i == .loadPower .iLoadPower
  | .rateR => i == .loadRate
  | .alarmState => i == .setAlarmState
  | .gate => i == .clrGate .iClrGate || i == .clrGate .fClrGate || i == .clrGate .aClrGate
  | .aflRun => i == .flashStart
  | .led => i == .setLed || i == .clrLed .iClrLed || i == .clrLed .fClrLed || i == .flashTick
  | .moEnN =>
    i == .setMo .sSetMo || i == .setMo .nSetMo ||
    i == .clrMo .iClrMo || i == .clrMo .fClrMo || i == .clrMo .aClrMo
  | .onEnN =>
    i == .setOn .sSetOn || i == .setOn .nSetOn ||
    i == .clrOn .iClrOn || i == .clrOn .fClrOn || i == .clrOn .aClrOn
  | .pulse | .laserEn => i == .pulseTick
  | .guideN => false
  | .displayCode => i == .dispPower .nDispPower || i == .dispPower .iDispPower || i == .dispRate || i == .clrDisplay
  | .samp => i == .sample
  | .seqPc => isUop i
  | .seqHold => isUop i || i == .advance
  | .ppgCnt => i == .pulseTick || i == .loadRate || i == .advance
  | .aflCnt => i == .flashTick || i == .flashStart || i == .advance

/-- Every register of 10_state.md R20 but the counters, and of the timers' outputs none, is the same: what the passing of
time and the timer operations leave alone. -/
abbrev sameSeqRegs (s t : State) : Prop :=
  t.powerLevel = s.powerLevel ∧ t.rateR = s.rateR ∧ t.gate = s.gate ∧ t.aflRun = s.aflRun ∧ t.mode = s.mode ∧
  t.alarmState = s.alarmState ∧ t.pN = s.pN ∧ t.moEnN = s.moEnN ∧ t.onEnN = s.onEnN ∧ t.guideN = s.guideN ∧
  t.displayCode = s.displayCode ∧ t.samp = s.samp ∧ t.inp = s.inp ∧ t.cand = s.cand ∧ t.agenda = s.agenda

/-- The label where a composite begins and, for a MODE3 action, the mode that selects it (30_encoding.md R71, R82). -/
def compositeReady (i : Instr) (s : State) : Bool :=
  match i with
  | .runOn => s.seqPc == .nSetMo
  | .runIdle => s.seqPc == .iClrGate
  | .runOffSetRate => s.seqPc == .fClrGate
  | .runAlarmTemp => s.seqPc == .aFlashStart && s.mode == 3#3
  | .runAlarmReflection => s.seqPc == .aFlashStart && s.mode == 4#3
  | .runAlarmMo => s.seqPc == .aFlashStart && s.mode == 5#3
  | .runAlarmReserved x => s.seqPc == .aFlashStart && s.mode == (0b11#2 : BitVec 2) ++ x
  | .nextMode => s.seqPc == .cSample
  | .startupSeq => s.seqPc == .sSetMo
  | .shutdownSeq l => s.seqPc == l && (l == .iClrGate || l == .fClrGate || l == .aClrGate)
  | .powerEncode l => s.seqPc == l && (l == .nLoadPower || l == .iLoadPower)
  | .rateEncode => s.seqPc == .fLoadRate
  | .alarmAction => s.seqPc == .aFlashStart && (s.mode != 0#3 && s.mode != 1#3 && s.mode != 2#3)
  | .controlCycle => s.seqPc == .cSample
  | .candAlarmTemp _ | .candAlarmReflection _ | .candAlarmMo _ | .candOn _ | .candOffSetRate | .candIdle
  | .sample | .decide | .setMo _ | .setOn _ | .clrOn _ | .clrMo _ | .clrGate _ | .setLed | .clrLed _ | .wait5ms
  | .wait1ms _ | .commit | .dispatch | .loop | .loadPower _ | .dispPower _ | .loadRate | .dispRate | .flashStart
  | .clrDisplay | .setAlarmState | .pulseTick | .flashTick | .advance | .reset => false

end Sys2Proof.Machine
end

