-- ==== Sys2Proof/Certificates/Slice0/Obligations.lean ====
section
/-! DEFINITION. The statements for the provers. -/

open Sys2Proof Sys2Proof.Machine

/-! ## Encoding -/

/-- Decoding the word of a well-formed operation gives it back, through words and through bytes: no bit of an encoding is
dropped. The word layout is the model's own (log 4). -/
def Obligations.DecodeOfEncodeIsIdentity : Prop :=
  ∀ i : Instr, i.WellFormed →
    decodeWord (encode i) = .ok i ∧ decode (wordBytes (encode i)) = .ok (i, [])

/-- A word that decodes names a well-formed operation, and encoding that gives the word back, but for the eight format-0
words that are read as IN4 values (log 5). -/
def Obligations.DecodedWordsReencode : Prop :=
  ∀ (w : OpWord) (i : Instr), decodeWord w = .ok i →
    i.WellFormed ∧ (encode i = w ∨ (8 ≤ w.toNat ∧ w.toNat < 16))

/-- A few words written out from the tables of 30_encoding.md (R71, R74) and from the model's numbering (log 4). -/
def Obligations.WrittenWordsDecode : Prop :=
  decodeWord 0b0000000000000011#16 = .ok .runAlarmTemp ∧
  decodeWord 0b0000000000000111#16 = .ok (.runAlarmReserved 1#1) ∧
  decodeWord 0b0000000100001010#16 = .ok (.candOn 1#1) ∧
  decodeWord 0b0000000100000110#16 = .ok .candOffSetRate ∧
  decodeWord 0b0000001000000010#16 = .ok (.setMo .sSetMo) ∧
  decodeWord 0b0000001100000010#16 = .ok (.shutdownSeq .iClrGate) ∧
  decodeWord 0b0000010000000000#16 = .ok .pulseTick ∧
  decodeWord 0b0000010100000000#16 = .error .unknownFormat

/-- MODE3 is total: each value of the register selects the action of its row, and DISPATCH goes to that action's first label. -/
def Obligations.Mode3SelectsTheAction : Prop :=
  (decodeMode3 0b000#3 = .runOn ∧ decodeMode3 0b001#3 = .runIdle ∧ decodeMode3 0b010#3 = .runOffSetRate ∧
   decodeMode3 0b011#3 = .runAlarmTemp ∧ decodeMode3 0b100#3 = .runAlarmReflection ∧
   decodeMode3 0b101#3 = .runAlarmMo ∧ ∀ x : Level, decodeMode3 ((0b11#2 : BitVec 2) ++ x) = .runAlarmReserved x) ∧
  ∀ s : State, ∃ t : State, exec .dispatch s = .next t ∧
    compositeReady (decodeMode3 s.mode) t = true

/-- The six IN4 patterns are disjoint, cover all values of `samp`, and each row puts on the candidate wire the mode of its
row, which is the candidate function's value and never 6 or 7. The patterns and the modes are the spec's; that a row
performed in any state, whatever `samp` holds there, leaves its mode on a wire held in State is the model's choice
(log 10). -/
def Obligations.In4PatternsGiveTheCandidate : Prop :=
  (∀ v : BitVec 4,
    (([(0x0#4, 0x3#4), (0x1#4, 0x3#4), (0x3#4, 0x3#4), (0x2#4, 0x7#4), (0x6#4, 0xF#4), (0xE#4, 0xF#4)] :
      List (BitVec 4 × BitVec 4)).filter fun p => v &&& p.2 == p.1).length = 1) ∧
  (∀ sw : BitVec 2,
    decodeIn4 (sw ++ 0b00#2) = .candAlarmTemp sw ∧ candidate (sw ++ 0b00#2) = 3#3 ∧
    decodeIn4 (sw ++ 0b01#2) = .candAlarmReflection sw ∧ candidate (sw ++ 0b01#2) = 4#3 ∧
    decodeIn4 (sw ++ 0b11#2) = .candAlarmMo sw ∧ candidate (sw ++ 0b11#2) = 5#3) ∧
  (∀ sw2 : Level, decodeIn4 (sw2 ++ 0b010#3) = .candOn sw2 ∧ candidate (sw2 ++ 0b010#3) = 0#3) ∧
  decodeIn4 0b0110#4 = .candOffSetRate ∧ candidate 0b0110#4 = 2#3 ∧
  decodeIn4 0b1110#4 = .candIdle ∧ candidate 0b1110#4 = 1#3 ∧
  ∀ (v : BitVec 4) (s : State), exec (decodeIn4 v) s = .next { s with cand := candidate v }

/-! ## Steps -/

/-- When the word at the head of the agenda decodes to an operation and RST is low, the step is that operation's meaning,
with the word taken off the agenda. -/
def Obligations.StepRunsTheWord : Prop :=
  ∀ (s : State) (w : OpWord) (rest : List Directive) (i : Instr),
    s.agenda = .word w :: rest → s.inp.rst = 0#1 → decode (wordBytes w) = .ok (i, []) →
    step s = exec i { s with agenda := rest }

/-- When SEQ is asked to move, holds no more and RST is low, the step performs the micro-op `seq_pc` names, which is the one
the word of that label decodes to. -/
def Obligations.StepRunsTheMicroOp : Prop :=
  ∀ (s : State) (rest : List Directive),
    s.agenda = .act .seq :: rest → s.inp.rst = 0#1 → s.seqHold = 0 →
    decodeWord (uopWord s.seqPc) = .ok (uopAt s.seqPc) ∧
    step s = exec (uopAt s.seqPc) { s with agenda := rest }

/-- With RST low, the steps of a run are enabled as 20_memory.md R60 says. An input change puts each port it names at its new
level and keeps every other port, every register, counter and the clock (R58 item 4, R68; 30_encoding.md R83 SET). That a
step that is enabled and asked for is the one taken, so that of the steps enabled at one tick each may come first (R62), is
the model's choice: the agenda resolves the order (log 1). -/
def Obligations.EnabledStepsAreTaken : Prop :=
  (∀ s : State, s.inp.rst = 0#1 →
    (enabled .seq s = true ↔ s.seqHold = 0) ∧
    (enabled .pulseTick s = true ↔ s.ppgCnt = 0) ∧
    (enabled .flashTick s = true ↔ s.aflRun = 1#1 ∧ s.aflCnt = 0) ∧
    (enabled .advance s = true ↔ 0 < s.ppgCnt ∧ (s.aflRun = 0#1 ∨ 0 < s.aflCnt)) ∧
    (∀ c, enabled (.input c) s = true) ∧ enabled .reset s = true) ∧
  (∀ (s : State) (c : InputChange), perform (.input c) s = .next
    { s with
      inp :=
        { alarmLsb := c.alarmLsb.getD s.inp.alarmLsb
          alarmMsb := c.alarmMsb.getD s.inp.alarmMsb
          sw1N := c.sw1N.getD s.inp.sw1N
          sw2N := c.sw2N.getD s.inp.sw2N
          dial := c.dial.getD s.inp.dial
          trigInN := c.trigInN.getD s.inp.trigInN
          rst := c.rst.getD s.inp.rst } }) ∧
  ∀ (s : State) (a : Act), enabled a s = true →
    ∀ rest, step { s with agenda := .act a :: rest } = perform a { s with agenda := rest }

/-- Every operation answers a next state, and so does every step of a run. -/
def Obligations.NoOperationFails : Prop :=
  (∀ (i : Instr) (s : State), ∃ t : State, exec i s = .next t) ∧
  ∀ s : State, onlyActs s = true → ∃ t : State, step s = .next t

/-- A due timer operation is urgent: no step of a run lets time pass while one is due; a RESET starts time anew. SEQ needs not
act at once, but it is weakly fair: with nothing asked for and `seq_hold` at 0, after a finite number of further steps SEQ
performs the micro-op at `seq_pc`, unless RST goes high before (20_memory.md R59, R69). That the number is at most a field
of State that starts from a free value is the model's choice (log 22). -/
def Obligations.TimersAreUrgentAndSeqIsFair : Prop :=
  (∀ s t : State, onlyActs s = true → (s.ppgCnt = 0 ∨ (s.aflRun = 1#1 ∧ s.aflCnt = 0)) → step s = .next t →
    t.now = s.now ∨ (t.now = 0 ∧ t.seqPc = .cSample ∧ t.seqHold = 0)) ∧
  ∀ s : State, s.agenda = [] → s.seqHold = 0 →
    ∃ (k : Nat) (u : State), k ≤ s.patience ∧ core.run k s = .next u ∧
      (u.inp.rst = 1#1 ∨
        ∃ d p : Nat, step u = exec (uopAt u.seqPc) { u with draws := d, patience := p })

/-- Every micro-op sets `seq_hold` to its minimum duration, and until that has run out no step of a run moves SEQ: `now`
plus the ticks still to hold stays what it was, but for a RESET. The timer operations take no time. -/
def Obligations.MinimumDurationsAreKept : Prop :=
  (∀ (l : Label) (s t : State), exec (uopAt l) s = .next t →
    t.seqHold = if l = .sWait then wait5Ticks
      else if l = .iWait ∨ l = .fWait ∨ l = .aWait then wait1Ticks else 1) ∧
  (∀ (i : Instr) (s t : State), i = .pulseTick ∨ i = .flashTick → exec i s = .next t → t.now = s.now) ∧
  ∀ s t : State, onlyActs s = true → 0 < s.seqHold → step s = .next t →
    (t.seqPc = s.seqPc ∧ t.now + t.seqHold = s.now + s.seqHold) ∨
    (t.seqPc = .cSample ∧ t.now = 0 ∧ t.seqHold = 0)

/-! ## The IN4 rows and the micro-ops -/

/-- Each IN4 row puts its candidate on the candidate wire, whatever the bits it does not examine, and changes nothing else.
The six modes are the rows' own (40_mode_state_machine.md section 2); that a row performed in any state leaves its mode in
a field of State is the model's choice (log 10): the hardware computes `cand` from `samp` and does not hold it. -/
def Obligations.CandidateRowsGiveTheirMode : Prop :=
  ∀ (s : State) (sw : BitVec 2) (sw2 : Level),
    exec (.candAlarmTemp sw) s = .next { s with cand := 3#3 } ∧
    exec (.candAlarmReflection sw) s = .next { s with cand := 4#3 } ∧
    exec (.candAlarmMo sw) s = .next { s with cand := 5#3 } ∧
    exec (.candOn sw2) s = .next { s with cand := 0#3 } ∧
    exec .candOffSetRate s = .next { s with cand := 2#3 } ∧
    exec .candIdle s = .next { s with cand := 1#3 }

/-- SAMPLE latches the four discrete levels in one act and nothing else. -/
def Obligations.SampleLatchesTheInputs : Prop :=
  ∀ s : State, exec .sample s = .next
    { s with
      samp := s.inp.sw2N ++ s.inp.sw1N ++ s.inp.alarmMsb ++ s.inp.alarmLsb
      seqHold := 1
      seqPc := .cDecide }

/-- DECIDE goes to the startup sequence exactly when the candidate is ON and the mode still held is IDLE or OFF_SET_RATE;
no register but `seq_pc` and `seq_hold` changes (`cand` is the wire). -/
def Obligations.DecideTestsTheStartupCondition : Prop :=
  ∀ s : State, exec .decide s = .next
    { s with
      cand := candidate s.samp
      seqHold := 1
      seqPc := if candidate s.samp = 0#3 ∧ (s.mode = 1#3 ∨ s.mode = 2#3) then .sSetMo else .cCommit }

/-- COMMIT writes the candidate of the latched inputs, one of the values 0 to 5, into `mode`. -/
def Obligations.CommitWritesTheCandidate : Prop :=
  ∀ s : State, exec .commit s = .next
      { s with cand := candidate s.samp, mode := candidate s.samp, seqHold := 1, seqPc := .cDispatch } ∧
    (candidate s.samp).toNat ≤ 5

/-- DISPATCH goes to the action of the mode; the modes 3 to 7 all take the alarm action. -/
def Obligations.DispatchBranchesOnTheMode : Prop :=
  ∀ s : State, exec .dispatch s = .next
    { s with
      seqHold := 1
      seqPc := if s.mode = 0#3 then .nSetMo else if s.mode = 1#3 then .iClrGate
        else if s.mode = 2#3 then .fClrGate else .aFlashStart }

/-- LOOP goes back to SAMPLE; the waits hold SEQ for their ticks; nothing else changes. -/
def Obligations.LoopAndWaitsOnlyMoveTheSequencer : Prop :=
  ∀ s : State,
    exec .loop s = .next { s with seqHold := 1, seqPc := .cSample } ∧
    exec .wait5ms s = .next { s with seqHold := wait5Ticks, seqPc := .sSetOn } ∧
    exec (.wait1ms .iWait) s = .next { s with seqHold := wait1Ticks, seqPc := .iClrMo } ∧
    exec (.wait1ms .fWait) s = .next { s with seqHold := wait1Ticks, seqPc := .fClrMo } ∧
    exec (.wait1ms .aWait) s = .next { s with seqHold := wait1Ticks, seqPc := .aClrMo }

/-- The four enable micro-ops, at each of their labels, write their pin and nothing else. -/
def Obligations.EnableMicroOpsWriteTheirPin : Prop :=
  ∀ s : State,
    exec (.setMo .sSetMo) s = .next { s with moEnN := 0#1, seqHold := 1, seqPc := .sWait } ∧
    exec (.setMo .nSetMo) s = .next { s with moEnN := 0#1, seqHold := 1, seqPc := .nSetOn } ∧
    exec (.setOn .sSetOn) s = .next { s with onEnN := 0#1, seqHold := 1, seqPc := .cCommit } ∧
    exec (.setOn .nSetOn) s = .next { s with onEnN := 0#1, seqHold := 1, seqPc := .nLoadPower } ∧
    exec (.clrOn .iClrOn) s = .next { s with onEnN := 1#1, seqHold := 1, seqPc := .iWait } ∧
    exec (.clrOn .fClrOn) s = .next { s with onEnN := 1#1, seqHold := 1, seqPc := .fWait } ∧
    exec (.clrOn .aClrOn) s = .next { s with onEnN := 1#1, seqHold := 1, seqPc := .aWait } ∧
    exec (.clrMo .iClrMo) s = .next { s with moEnN := 1#1, seqHold := 1, seqPc := .iLoadPower } ∧
    exec (.clrMo .fClrMo) s = .next { s with moEnN := 1#1, seqHold := 1, seqPc := .fLoadRate } ∧
    exec (.clrMo .aClrMo) s = .next { s with moEnN := 1#1, seqHold := 1, seqPc := .aSetAlarmState }

/-- CLR_GATE, SET_LED and CLR_LED, at each of their labels, write their register and nothing else. -/
def Obligations.GateAndLedMicroOpsWriteTheirRegister : Prop :=
  ∀ s : State,
    exec (.clrGate .iClrGate) s = .next { s with gate := 0#1, seqHold := 1, seqPc := .iClrOn } ∧
    exec (.clrGate .fClrGate) s = .next { s with gate := 0#1, seqHold := 1, seqPc := .fClrOn } ∧
    exec (.clrGate .aClrGate) s = .next { s with gate := 0#1, seqHold := 1, seqPc := .aClrOn } ∧
    exec .setLed s = .next { s with led := 1#1, seqHold := 1, seqPc := .cLoop } ∧
    exec (.clrLed .iClrLed) s = .next { s with led := 0#1, seqHold := 1, seqPc := .cLoop } ∧
    exec (.clrLed .fClrLed) s = .next { s with led := 0#1, seqHold := 1, seqPc := .cLoop }

/-- LOAD_POWER, at both its labels, writes the dial reading to `power_level` and its complement, bit by bit, to the pins. -/
def Obligations.LoadPowerWritesLevelAndPins : Prop :=
  ∀ (s : State) (l next : Label), (l, next) ∈ [(Label.nLoadPower, Label.nDispPower), (.iLoadPower, .iDispPower)] →
    exec (.loadPower l) s = .next
      { s with powerLevel := s.inp.dial, pN := ~~~s.inp.dial, seqHold := 1, seqPc := next } ∧
    ∀ i : Fin 8, (~~~s.inp.dial).getLsb i = !s.inp.dial.getLsb i

/-- DISP_POWER and DISP_RATE write the display code of the stored level and of the stored rate reading, and nothing else. -/
def Obligations.DisplayMicroOpsWriteTheCode : Prop :=
  ∀ s : State,
    exec (.dispPower .nDispPower) s = .next
      { s with displayCode := disp (pwrMv s.powerLevel), seqHold := 1, seqPc := .nSetLed } ∧
    exec (.dispPower .iDispPower) s = .next
      { s with displayCode := disp (pwrMv s.powerLevel), seqHold := 1, seqPc := .iClrLed } ∧
    exec .dispRate s = .next
      { s with displayCode := disp (rateDisp s.rateR), seqHold := 1, seqPc := .fClrLed }

/-- LOAD_RATE stores the dial reading and restarts the pulse interval at the new half-period; `pulse`, `laser_en` and `gate`
are not touched. -/
def Obligations.LoadRateRestartsTheInterval : Prop :=
  ∀ s : State, exec .loadRate s = .next
    { s with rateR := s.inp.dial, ppgCnt := halfTicks s.inp.dial, seqHold := 1, seqPc := .fDispRate }

/-- FLASH_START starts the flasher one second before its first tick if it is not running, and changes nothing if it is. -/
def Obligations.FlashStartIsIdempotent : Prop :=
  ∀ s : State, exec .flashStart s = .next
    { s with
      aflRun := 1#1
      aflCnt := if s.aflRun = 0#1 then oneSecTicks else s.aflCnt
      seqHold := 1
      seqPc := .aClrDisplay }

/-- CLR_DISPLAY writes the code 0, and nothing else. -/
def Obligations.ClrDisplayWritesZero : Prop :=
  ∀ s : State, exec .clrDisplay s = .next
    { s with displayCode := 0#12, seqHold := 1, seqPc := .aClrGate }

/-- SET_ALARM_STATE writes the label of the mode; for a mode without label some value is written and the machine goes on
(that value is free: log 11). -/
def Obligations.SetAlarmStateWritesTheLabel : Prop :=
  (∀ (s : State) (v : BitVec 3),
    (s.mode, v) ∈ [(3#3, 1#3), (4#3, 2#3), (5#3, 3#3), (6#3, 4#3), (7#3, 4#3)] →
    exec .setAlarmState s = .next { s with alarmState := v, seqHold := 1, seqPc := .cLoop }) ∧
  ∀ s : State, s.mode.toNat < 3 → ∃ v : BitVec 3,
    exec .setAlarmState s = .next { s with alarmState := v, draws := s.draws + 1, seqHold := 1, seqPc := .cLoop }

/-! ## Events and reset -/

/-- PULSE_TICK toggles the pulse level, copies the gate to laser-enable and reloads its counter, and nothing else. -/
def Obligations.PulseTickTogglesAndGates : Prop :=
  ∀ s : State, exec .pulseTick s = .next
    { s with
      pulse := ~~~s.pulse
      laserEn := if s.gate = 0#1 then 0#1 else 1#1
      ppgCnt := halfTicks s.rateR }

/-- FLASH_TICK complements the LED level it finds and reloads its counter, and nothing else. -/
def Obligations.FlashTickTogglesTheLed : Prop :=
  ∀ s : State, exec .flashTick s = .next { s with led := ~~~s.led, aflCnt := oneSecTicks }

/-- ADVANCE is enabled (RST low) exactly while no timer operation is due, and then passes one tick: the clock, the running
counters and the hold, nothing else. -/
def Obligations.AdvancePassesOneTick : Prop :=
  (∀ s : State, s.inp.rst = 0#1 →
    (enabled .advance s = true ↔ 0 < s.ppgCnt ∧ (s.aflRun = 0#1 ∨ 0 < s.aflCnt))) ∧
  ∀ s : State, 0 < s.ppgCnt → (s.aflRun = 0#1 ∨ 0 < s.aflCnt) → exec .advance s = .next
    { s with
      now := s.now + 1
      ppgCnt := s.ppgCnt - 1
      aflCnt := if s.aflRun = 1#1 then s.aflCnt - 1 else s.aflCnt
      seqHold := if 0 < s.seqHold then s.seqHold - 1 else s.seqHold }

/-- RESET puts every register to which the spec gives a reset value at that value, and `now` at 0. Nothing is said of `samp`,
`afl_cnt` and the candidate wire, to which the spec gives none. RESET is always enabled; while RST is high nothing else is
until it has been performed, and then only it and input changes. So every step of a run taken while RST is high, the one
that releases it among them, leaves the registers at their reset values and `now` at 0. That inputs may change while RST is
high is the model's reading (log 16); that RESET keeps the input levels and the model's own fields is its choice (log 17). -/
def Obligations.ResetSetsEveryRegister : Prop :=
  (∀ s : State, ∃ (samp : BitVec 4) (aflCnt : Nat) (cand : BitVec 3),
    exec .reset s = .next (resetValues samp aflCnt cand s)) ∧
  (∀ s : State, enabled .reset s = true) ∧
  (∀ (s : State) (a : Act), s.inp.rst = 1#1 → enabled a s = true →
    a = .reset ∨ ((∃ c, a = .input c) ∧ exec .reset s = .next s)) ∧
  ∀ s t : State, onlyActs s = true → s.inp.rst = 1#1 → step s = .next t →
    ∃ (samp : BitVec 4) (aflCnt : Nat) (cand : BitVec 3), t = resetValues samp aflCnt cand t

/-- The state after reset holds the values of 10_state.md R35 where it gives them. -/
def Obligations.ResetStateValues : Prop :=
  State.reset.mode = 7#3 ∧ State.reset.guideN = 0#1 ∧ State.reset.powerLevel = 0#8 ∧ State.reset.pN = 0xFF#8 ∧
  State.reset.rateR = Config.rateReset ∧ State.reset.alarmState = 0#3 ∧ State.reset.gate = Config.gateReset ∧
  State.reset.aflRun = 0#1 ∧ State.reset.led = 0#1 ∧ State.reset.moEnN = 1#1 ∧ State.reset.onEnN = 1#1 ∧
  State.reset.pulse = 0#1 ∧ State.reset.laserEn = 0#1 ∧ State.reset.displayCode = 0#12 ∧
  State.reset.seqPc = .cSample ∧ State.reset.seqHold = 0 ∧ State.reset.ppgCnt = halfTicks Config.rateReset

/-! ## Composites and actions

The composites are not atomic: what ENV does between their micro-ops is data of the state (`env`; 20_memory.md R55, log 3).
The statements of this section say what a composite does while ENV does nothing inside it; that with any moves of ENV,
changes of the inputs and RESETs, it does what a run of single steps does is `CompositesAreRuns`. -/

/-- STARTUP_SEQ: MO-enable is asserted in the state `u` that its SET_MO leaves, ON-enable at least WAIT5_TICKS + 1 ticks
later; the gate and the mode are not written. -/
def Obligations.StartupSequenceSeparatesTheEnables : Prop :=
  ∀ s : State, s.env = [] → ∃ u t : State,
    performAll Config.lag [doSetMo .sSetMo] s = .ok u ∧
    performAll Config.lag [doWait5ms, doSetOn .sSetOn] u = .ok t ∧
    exec .startupSeq s = .next t ∧
    u.moEnN = 0#1 ∧ u.onEnN = s.onEnN ∧ t.moEnN = 0#1 ∧ t.onEnN = 0#1 ∧
    s.now + s.seqHold ≤ u.now ∧ u.now + wait5Ticks + 1 ≤ t.now ∧ t.seqPc = .cCommit ∧ t.seqHold = 1 ∧
    sameSeqRegs { s with moEnN := 0#1, onEnN := 0#1 } t

/-- SHUTDOWN_SEQ, at each of its places: gate cleared, ON-enable de-asserted in the state `u` that its CLR_ON leaves,
MO-enable at least WAIT1_TICKS + 1 ticks later. -/
def Obligations.ShutdownSequenceSeparatesTheEnables : Prop :=
  ∀ (s : State) (l next : Label),
    (l, next) ∈ [(Label.iClrGate, Label.iLoadPower), (.fClrGate, .fLoadRate), (.aClrGate, .aSetAlarmState)] →
    s.env = [] → ∃ u t : State,
      performAll Config.lag [doClrGate l, doClrOn (succLabel l)] s = .ok u ∧
      performAll Config.lag
        [doWait1ms (succLabel (succLabel l)), doClrMo (succLabel (succLabel (succLabel l)))] u = .ok t ∧
      exec (.shutdownSeq l) s = .next t ∧
      u.gate = 0#1 ∧ u.onEnN = 1#1 ∧ u.moEnN = s.moEnN ∧ t.moEnN = 1#1 ∧
      s.now + s.seqHold + 1 ≤ u.now ∧ u.now + wait1Ticks + 1 ≤ t.now ∧ t.seqPc = next ∧ t.seqHold = 1 ∧
      sameSeqRegs { s with gate := 0#1, onEnN := 1#1, moEnN := 1#1 } t

/-- POWER_ENCODE, at both its places: level, pins and display follow the one dial reading; nothing else of SEQ's is written. -/
def Obligations.PowerEncodeFollowsTheDial : Prop :=
  ∀ (s : State) (l next : Label), (l, next) ∈ [(Label.nLoadPower, Label.nSetLed), (.iLoadPower, .iClrLed)] →
    s.env = [] → ∃ t : State, exec (.powerEncode l) s = .next t ∧ t.seqPc = next ∧ t.seqHold = 1 ∧
      sameSeqRegs
        { s with powerLevel := s.inp.dial, pN := ~~~s.inp.dial, displayCode := disp (pwrMv s.inp.dial) } t

/-- RATE_ENCODE: the rate reading and the display follow the one dial reading; the pulse interval is at most the new
half-period; nothing else of SEQ's is written. -/
def Obligations.RateEncodeFollowsTheDial : Prop :=
  ∀ s : State, s.env = [] → ∃ t : State, exec .rateEncode s = .next t ∧ t.seqPc = .fClrLed ∧ t.seqHold = 1 ∧
    t.ppgCnt ≤ halfTicks s.inp.dial ∧
    sameSeqRegs { s with rateR := s.inp.dial, displayCode := disp (rateDisp s.inp.dial) } t

/-- RUN_ON: both enables asserted, level, pins and display from the dial, LED on; the gate, the rate and the alarm label are
not written. -/
def Obligations.RunOnTurnsTheLaserOn : Prop :=
  ∀ s : State, s.env = [] → ∃ t : State, exec .runOn s = .next t ∧ t.seqPc = .cLoop ∧ t.seqHold = 1 ∧ t.led = 1#1 ∧
    s.now + s.seqHold + 4 ≤ t.now ∧
    sameSeqRegs
      { s with
        moEnN := 0#1, onEnN := 0#1
        powerLevel := s.inp.dial, pN := ~~~s.inp.dial, displayCode := disp (pwrMv s.inp.dial) } t

/-- RUN_IDLE: gate cleared, both enables de-asserted, level, pins and display from the dial, LED off; at least 1 ms. -/
def Obligations.RunIdleShutsDownAndFollowsTheDial : Prop :=
  ∀ s : State, s.env = [] → ∃ t : State, exec .runIdle s = .next t ∧ t.seqPc = .cLoop ∧ t.seqHold = 1 ∧ t.led = 0#1 ∧
    s.now + s.seqHold + 5 + wait1Ticks ≤ t.now ∧
    sameSeqRegs
      { s with
        gate := 0#1, onEnN := 1#1, moEnN := 1#1
        powerLevel := s.inp.dial, pN := ~~~s.inp.dial, displayCode := disp (pwrMv s.inp.dial) } t

/-- RUN_OFF_SET_RATE: gate cleared, both enables de-asserted, rate and display from the dial, LED off; the power level and
the power pins keep their value; at least 1 ms. -/
def Obligations.RunOffSetRateShutsDownAndSetsTheRate : Prop :=
  ∀ s : State, s.env = [] → ∃ t : State, exec .runOffSetRate s = .next t ∧ t.seqPc = .cLoop ∧ t.seqHold = 1 ∧ t.led = 0#1 ∧
    s.now + s.seqHold + 5 + wait1Ticks ≤ t.now ∧
    sameSeqRegs
      { s with
        gate := 0#1, onEnN := 1#1, moEnN := 1#1
        rateR := s.inp.dial, displayCode := disp (rateDisp s.inp.dial) } t

/-- ALARM_ACTION: flasher running, display 0, gate cleared, both enables de-asserted, and the label of the mode recorded;
power level, power pins and rate keep their value. -/
def Obligations.AlarmActionShutsDownAndLabels : Prop :=
  ∀ (s : State) (v : BitVec 3),
    (s.mode, v) ∈ [(3#3, 1#3), (4#3, 2#3), (5#3, 3#3), (6#3, 4#3), (7#3, 4#3)] →
    s.env = [] → ∃ t : State, exec .alarmAction s = .next t ∧ t.seqPc = .cLoop ∧ t.seqHold = 1 ∧
      s.now + s.seqHold + 5 + wait1Ticks ≤ t.now ∧
      sameSeqRegs
        { s with
          aflRun := 1#1, displayCode := 0#12, gate := 0#1, onEnN := 1#1, moEnN := 1#1, alarmState := v } t

/-- The four alarm actions of MODE3: the alarm action, each with the label of its row. -/
def Obligations.AlarmRowsRecordTheirLabel : Prop :=
  ∀ (s : State) (x : Level) (i : Instr) (v : BitVec 3),
    (i, v) ∈ [(Instr.runAlarmTemp, 1#3), (.runAlarmReflection, 2#3), (.runAlarmMo, 3#3),
      (.runAlarmReserved x, 4#3)] →
    s.env = [] → ∃ t : State, exec i s = .next t ∧ t.seqPc = .cLoop ∧ t.seqHold = 1 ∧
      s.now + s.seqHold + 5 + wait1Ticks ≤ t.now ∧
      sameSeqRegs
        { s with
          aflRun := 1#1, displayCode := 0#12, gate := 0#1, onEnN := 1#1, moEnN := 1#1, alarmState := v } t

/-- NEXTMODE: the mode becomes the candidate of the levels on the pins, whatever the mode was; on the edge from IDLE or
OFF_SET_RATE to ON both enables are asserted and at least the 5 ms pass, otherwise no register but `samp` and `mode`
changes. -/
def Obligations.NextModeFollowsTheInputs : Prop :=
  ∀ (s : State) (c : BitVec 3), c = candidate (s.inp.sw2N ++ s.inp.sw1N ++ s.inp.alarmMsb ++ s.inp.alarmLsb) →
    s.env = [] → ∃ t : State, exec .nextMode s = .next t ∧ t.seqPc = .cDispatch ∧ t.seqHold = 1 ∧
      sameSeqRegs
        { s with
          samp := s.inp.sw2N ++ s.inp.sw1N ++ s.inp.alarmMsb ++ s.inp.alarmLsb
          cand := c
          mode := c
          moEnN := if c = 0#3 ∧ (s.mode = 1#3 ∨ s.mode = 2#3) then 0#1 else s.moEnN
          onEnN := if c = 0#3 ∧ (s.mode = 1#3 ∨ s.mode = 2#3) then 0#1 else s.onEnN } t ∧
      s.now + s.seqHold + 2 +
        (if c = 0#3 ∧ (s.mode = 1#3 ∨ s.mode = 2#3) then 2 + wait5Ticks else 0) ≤ t.now

/-- CONTROL_CYCLE: the mode becomes the candidate of the levels on the pins and the action of that mode is performed, its LED
write included; while the flasher is off the LED keeps that level to the end of the cycle. The cycle takes at least the
ticks of 70_reset_and_hazards.md R226. -/
def Obligations.ControlCycleRunsTheActionOfTheNewMode : Prop :=
  ∀ (s : State) (c : BitVec 3), c = candidate (s.inp.sw2N ++ s.inp.sw1N ++ s.inp.alarmMsb ++ s.inp.alarmLsb) →
    s.env = [] → ∃ t : State, exec .controlCycle s = .next t ∧ t.seqPc = .cSample ∧ t.seqHold = 1 ∧
      t.mode = c ∧ t.samp = s.inp.sw2N ++ s.inp.sw1N ++ s.inp.alarmMsb ++ s.inp.alarmLsb ∧
      t.inp = s.inp ∧ t.guideN = s.guideN ∧
      (c = 0#3 → t.moEnN = 0#1 ∧ t.onEnN = 0#1 ∧ t.gate = s.gate ∧ t.powerLevel = s.inp.dial ∧
        t.pN = ~~~s.inp.dial ∧ t.displayCode = disp (pwrMv s.inp.dial) ∧ t.rateR = s.rateR ∧
        t.alarmState = s.alarmState ∧ t.aflRun = s.aflRun ∧ (s.aflRun = 0#1 → t.led = 1#1) ∧
        s.now + s.seqHold + (if s.mode = 1#3 ∨ s.mode = 2#3 then 12 + wait5Ticks else 10) ≤ t.now + t.seqHold) ∧
      (c ≠ 0#3 → t.moEnN = 1#1 ∧ t.onEnN = 1#1 ∧ t.gate = 0#1 ∧
        s.now + s.seqHold + 11 + wait1Ticks ≤ t.now + t.seqHold) ∧
      (c = 1#3 → t.powerLevel = s.inp.dial ∧ t.pN = ~~~s.inp.dial ∧ t.displayCode = disp (pwrMv s.inp.dial) ∧
        t.rateR = s.rateR ∧ t.alarmState = s.alarmState ∧ t.aflRun = s.aflRun ∧ (s.aflRun = 0#1 → t.led = 0#1)) ∧
      (c = 2#3 → t.rateR = s.inp.dial ∧ t.displayCode = disp (rateDisp s.inp.dial) ∧
        t.powerLevel = s.powerLevel ∧ t.pN = s.pN ∧ t.alarmState = s.alarmState ∧ t.aflRun = s.aflRun ∧
        (s.aflRun = 0#1 → t.led = 0#1)) ∧
      (∀ v : BitVec 3, (c, v) ∈ [(3#3, 1#3), (4#3, 2#3), (5#3, 3#3)] →
        t.aflRun = 1#1 ∧ t.displayCode = 0#12 ∧ t.alarmState = v ∧
        t.powerLevel = s.powerLevel ∧ t.pN = s.pN ∧ t.rateR = s.rateR)

/-- The alarm action twice in a row with the same mode: the second changes no register but those of the running timers. -/
def Obligations.AlarmActionTwiceChangesNothing : Prop :=
  ∀ s t u : State, 3 ≤ s.mode.toNat → s.env = [] → exec .alarmAction s = .next t → exec .alarmAction t = .next u →
    sameSeqRegs t u ∧ u.seqPc = t.seqPc ∧ u.seqHold = t.seqHold

/-! ## Invariants -/

/-- The state after reset meets every invariant below. -/
def Obligations.InvariantsMeetAtReset : Prop :=
  onlyActs State.reset = true ∧ powerMirror State.reset ∧ countersInRange State.reset ∧ interlock State.reset ∧
  modeLegal State.reset ∧ gateFromReset State.reset

/-- The power pins are the complement of the power level after reset, and every step keeps them so. -/
def Obligations.StepKeepsThePowerPinsMirror : Prop :=
  powerMirror State.reset ∧ ∀ s t : State, powerMirror s → step s = .next t → powerMirror t

/-- Every step keeps every counter in its range. -/
def Obligations.StepKeepsTheCountersInRange : Prop :=
  ∀ s t : State, countersInRange s → step s = .next t → countersInRange t

/-- Every step of a run keeps the interlock: ON-enable asserted implies MO-enable asserted. -/
def Obligations.StepKeepsTheInterlock : Prop :=
  ∀ s t : State, onlyActs s = true → interlock s → step s = .next t → onlyActs t = true ∧ interlock t

/-- Every step of a run keeps the mode legal for SEQ's position and `alarm_state` below RESERVED; so the action for the
reserved modes is never entered. -/
def Obligations.StepKeepsTheModeLegal : Prop :=
  ∀ s t : State, onlyActs s = true → modeLegal s → step s = .next t → onlyActs t = true ∧ modeLegal t

/-- Every step keeps this: a set gate and an asserted laser-enable come from GATE_RESET. -/
def Obligations.StepKeepsTheGateFromReset : Prop :=
  ∀ s t : State, gateFromReset s → step s = .next t → gateFromReset t

/-- The startup sequence keeps its 5 ms in every run: after a SET_MO at the tick `t0`, every step keeps the clock of the
sequence or resets, and when SEQ may perform SET_ON, WAIT5_TICKS + 1 ticks have passed. -/
def Obligations.OnFollowsMoByFiveMilliseconds : Prop :=
  (∀ s t : State, exec (.setMo .sSetMo) s = .next t → startupClock s.now t) ∧
  (∀ (s t : State) (t0 : Nat), onlyActs s = true → t0 ≤ s.now → startupClock t0 s → step s = .next t →
    (t0 ≤ t.now ∧ startupClock t0 t) ∨ (t.now = 0 ∧ t.seqPc = .cSample)) ∧
  ∀ (s : State) (t0 : Nat), startupClock t0 s → s.seqPc = .sSetOn → enabled .seq s = true →
    t0 + wait5Ticks + 1 ≤ s.now

/-- The shutdown sequence keeps its 1 ms in every run: after a CLR_ON at the tick `t0`, every step keeps the clock of the
sequence or resets, and when SEQ may perform CLR_MO, WAIT1_TICKS + 1 ticks have passed. -/
def Obligations.MoFollowsOnByOneMillisecond : Prop :=
  (∀ (s t : State) (l : Label), l ∈ [Label.iClrOn, .fClrOn, .aClrOn] → exec (.clrOn l) s = .next t →
    shutdownClock s.now t) ∧
  (∀ (s t : State) (t0 : Nat), onlyActs s = true → t0 ≤ s.now → shutdownClock t0 s → step s = .next t →
    (t0 ≤ t.now ∧ shutdownClock t0 t) ∨ (t.now = 0 ∧ t.seqPc = .cSample)) ∧
  ∀ (s : State) (t0 : Nat), shutdownClock t0 s → atClrMo s.seqPc = true → enabled .seq s = true →
    t0 + wait1Ticks + 1 ≤ s.now

/-! ## Whole-machine rules -/

/-- A micro-op or event writes only the registers the ownership table gives it. -/
def Obligations.OnlyOwnersWriteARegister : Prop :=
  ∀ (i : Instr) (r : Reg) (s t : State), i.WellFormed → isComposite i = false → i ≠ .reset →
    writesReg i r = false → exec i s = .next t → sameReg r s t

/-- No operation sets the gate, moves the guide beam or clears `afl_run` but a RESET: the operation, or one that ENV makes
inside a composite. -/
def Obligations.GateOnlyFallsAndGuideStays : Prop :=
  ∀ (i : Instr) (s t : State), i ≠ .reset → (isComposite i = true → noResetInside s) → exec i s = .next t →
    (t.gate = s.gate ∨ t.gate = 0#1) ∧ t.guideN = s.guideN ∧ (s.aflRun = 1#1 → t.aflRun = 1#1)

/-- Two steps due at one tick commute, but for the three pairs of 20_memory.md R62: PULSE_TICK with CLR_GATE or LOAD_RATE,
and FLASH_TICK with SET_LED or CLR_LED. -/
def Obligations.OnlyThreePairsRace : Prop :=
  (∀ s u v t w : State, exec .pulseTick s = .next u → exec .flashTick u = .next v →
    exec .flashTick s = .next t → exec .pulseTick t = .next w → v = w) ∧
  (∀ (i : Instr) (s u v t w : State), isUop i = true → i ≠ .loadRate → (∀ l, i ≠ .clrGate l) →
    exec .pulseTick s = .next u → exec i u = .next v → exec i s = .next t → exec .pulseTick t = .next w → v = w) ∧
  ∀ (i : Instr) (s u v t w : State), isUop i = true → i ≠ .setLed → (∀ l, i ≠ .clrLed l) → s.aflRun = 1#1 →
    exec .flashTick s = .next u → exec i u = .next v → exec i s = .next t → exec .flashTick t = .next w → v = w

/-- After a PULSE_TICK and with no LOAD_RATE, `n` ticks up to the half-period leave the pulse level alone and the counter at
what is left; the same of the flasher and its second. -/
def Obligations.TimerPeriodsAreExact : Prop :=
  (∀ (s : State) (n : Nat), n ≤ halfTicks s.rateR →
    (elapse n (doPulseTick s)).pulse = ~~~s.pulse ∧
    (elapse n (doPulseTick s)).ppgCnt = halfTicks s.rateR - n ∧ (elapse n (doPulseTick s)).now = s.now + n) ∧
  ∀ (s : State) (n : Nat), s.aflRun = 1#1 → n ≤ oneSecTicks →
    (elapse n (doFlashTick s)).led = ~~~s.led ∧
    (elapse n (doFlashTick s)).aflCnt = oneSecTicks - n ∧ (elapse n (doFlashTick s)).now = s.now + n

/-- The passing of `n` ticks with the timer operations performed when due is what a run of the machine does that is asked
for `n` ADVANCE steps. -/
def Obligations.ElapseIsARun : Prop :=
  ∀ (n : Nat) (s : State), s.inp.rst = 0#1 →
    ∃ k : Nat, core.run k { s with agenda := List.replicate n (.act .advance) } =
      .next (elapse n { s with agenda := [] })

/-- What a composite does is done by a run of single steps, whatever ENV does inside it: from its first label there is an
agenda of steps, among them ENV's input changes and RESETs, after which the machine is where the composite's meaning says,
but for the count of free values drawn and the moves of ENV, which single steps do not use. -/
def Obligations.CompositesAreRuns : Prop :=
  ∀ (i : Instr) (s t : State), isComposite i = true → compositeReady i s = true → s.inp.rst = 0#1 →
    exec i { s with agenda := [] } = .next t →
    ∃ (acts : List Act) (k : Nat) (d : Nat),
      core.run k { s with agenda := acts.map .act } = .next { t with draws := d, env := s.env }

/-- The display function over the rationals: `round(x * DM)` to the nearest, a tie going up, then the 12-bit boundary, and 0
for 0. -/
def Obligations.DisplayRoundsAndBounds : Prop :=
  (∀ (ovf : DisplayOvf) (dm x : Frac) (n : Nat), 0 < dm.den → 0 < x.den →
    n = ⌊(x.num : ℚ) / x.den * ((dm.num : ℚ) / dm.den) + 1 / 2⌋₊ →
    (dispWith ovf dm x).toNat = if n ≤ 4095 then n else if ovf = .saturate then 4095 else n % 4096) ∧
  ∀ (ovf : DisplayOvf) (dm : Frac) (d : Nat), 0 < dm.den → 0 < d → dispWith ovf dm { num := 0, den := d } = 0#12

/-- The operand functions over the rationals: frequency, half-period, its quantisation, and the two display inputs. -/
def Obligations.EncodersComputeTheFormulas : Prop :=
  ∀ (r : Byte) (f : Nat),
    ((fKhz r).num : ℚ) / (fKhz r).den = 156863 / 1000000 * r.toNat + 25 ∧
    ((halfUs r).num : ℚ) / (halfUs r).den = 500 / (156863 / 1000000 * r.toNat + 25) ∧
    halfTicksAt f r = max 1 ⌊500 / (156863 / 1000000 * (r.toNat : ℚ) + 25) * f / 1000000 + 1 / 2⌋₊ ∧
    ((rateDisp r).num : ℚ) / (rateDisp r).den = 10 * (156863 / 1000000 * r.toNat + 25) ∧
    ((pwrMv r).num : ℚ) / (pwrMv r).den = 117641 / 100000 * r.toNat

/-- The Trigger-in pin is read by nothing: another level on it changes nothing in what an operation does, but the level on
that pin. -/
def Obligations.TriggerInIsNotRead : Prop :=
  ∀ (i : Instr) (s : State) (v : Level), ∃ (t : State) (x : Level), exec i s = .next t ∧
    exec i { s with inp := { s.inp with trigInN := v } } =
      .next { t with inp := { t.inp with trigInN := x } }

/-- While RST is low the output ports show their registers; the LASER_EN pin is the complement of its register exactly when
it is active low; the status ports show mode, alarm label and power level. While RST is high every port shows its reset
level. -/
def Obligations.OutputPortsShowTheRegisters : Prop :=
  ∀ s : State,
    (s.inp.rst = 0#1 →
      (outputs s).led = s.led ∧ (outputs s).pN = s.pN ∧ (outputs s).moEnN = s.moEnN ∧ (outputs s).onEnN = s.onEnN ∧
      (outputs s).pulse = s.pulse ∧ (outputs s).guideN = s.guideN ∧ (outputs s).display = s.displayCode ∧
      (outputs s).laserEn = (if Config.laserEnActiveLow then ~~~s.laserEn else s.laserEn) ∧
      (outputs s).statMode = s.mode ∧ (outputs s).statAlarm = s.alarmState ∧ (outputs s).statPower = s.powerLevel) ∧
    (s.inp.rst = 1#1 → outputs s =
      { led := 0#1, pN := 0xFF#8, moEnN := 1#1, onEnN := 1#1, pulse := 0#1, guideN := 0#1, display := 0#12
        laserEn := if Config.laserEnActiveLow then 1#1 else 0#1, statMode := 7#3, statAlarm := 0#3
        statPower := 0#8 })
end

