-- ==== Sys2Proof/Laws/Arith.lean ====
section
/-! SUPPORT. Facts of the operand functions: bounds of the half-period and of the waits, the values of the candidate. -/

namespace Sys2Proof.Machine

/-- The half-period in ticks as the closed form of 30_encoding.md R79, with `D = 25000000 + 156863 r`. -/
theorem halfTicksAt_eq (f : Nat) (r : Byte) :
    halfTicksAt f r =
      max 1 ((1000 * f + (25000000 + 156863 * r.toNat)) / (2 * (25000000 + 156863 * r.toNat))) := by
  have key : ∀ d : Nat, (2 * (500 * 1000000 * f) + d * 1000000) / (2 * (d * 1000000)) =
      (1000 * f + d) / (2 * d) := by
    intro d
    rw [show 2 * (500 * 1000000 * f) + d * 1000000 = (1000 * f + d) * 1000000 by ring,
      show 2 * (d * 1000000) = (2 * d) * 1000000 by ring]
    exact Nat.mul_div_mul_right _ _ (by norm_num)
  simp only [halfTicksAt, rhu, fracMul, halfUs, fKhz, key]

theorem one_le_halfTicks (r : Byte) : 1 ≤ halfTicks r := le_max_left _ _

theorem halfTicks_ne_zero (r : Byte) : halfTicks r ≠ 0 := Nat.one_le_iff_ne_zero.mp (one_le_halfTicks r)

/-- A larger reading gives a half-period that is no longer (42_pulse_rate_encoder.md R134). -/
theorem halfTicksAt_anti (f : Nat) {r q : Byte} (h : r.toNat ≤ q.toNat) : halfTicksAt f q ≤ halfTicksAt f r := by
  rw [halfTicksAt_eq, halfTicksAt_eq]
  refine max_le_max (le_refl 1) ?_
  have split : ∀ d : Nat, 0 < d → (1000 * f + d) / (2 * d) = (1000 * f / d + 1) / 2 := by
    intro d hd
    rw [Nat.mul_comm 2 d, ← Nat.div_div_eq_div_mul, Nat.add_div_right _ hd]
  rw [split _ (by omega), split _ (by omega)]
  refine Nat.div_le_div_right (Nat.add_le_add_right ?_ 1)
  exact Nat.div_le_div_left (by omega) (by omega)

/-- The longest half-period is that of the reading 0 (43_periodic_pulse_generator.md R146). -/
theorem halfTicks_le_longest (r : Byte) : halfTicks r ≤ halfTicks 0#8 :=
  halfTicksAt_anti _ (by simp)

theorem one_le_oneSecTicks : 1 ≤ oneSecTicks := by
  simp only [oneSecTicks, oneSecTicksAt, Config.fClkHz]; omega

theorem wait1Ticks_le_wait5Ticks : wait1Ticks ≤ wait5Ticks := by
  simp only [wait1Ticks, wait5Ticks, wait1TicksAt, wait5TicksAt, ceilDiv]; omega

theorem one_le_wait5Ticks : 1 ≤ wait5Ticks := by
  simp only [wait5Ticks, wait5TicksAt, ceilDiv, Config.fClkHz]; omega

/-- The candidate is one of the values 0 to 5 (40_mode_state_machine.md R118). -/
theorem candidate_le_five (v : BitVec 4) : (candidate v).toNat ≤ 5 := by
  revert v; decide

end Sys2Proof.Machine
end

