-- ==== Sys2Proof/Laws/State.lean ====
section
/-! SUPPORT. One lemma per field for each named update of the state, so that no later proof unfolds a record update. -/

namespace Sys2Proof.Machine

/-! ### retire -/

@[simp] theorem retire_powerLevel (d : Nat) (l : Label) (s : State) : (retire d l s).powerLevel = s.powerLevel := rfl
@[simp] theorem retire_rateR (d : Nat) (l : Label) (s : State) : (retire d l s).rateR = s.rateR := rfl
@[simp] theorem retire_seqPc (d : Nat) (l : Label) (s : State) : (retire d l s).seqPc = l := rfl
@[simp] theorem retire_gate (d : Nat) (l : Label) (s : State) : (retire d l s).gate = s.gate := rfl
@[simp] theorem retire_aflRun (d : Nat) (l : Label) (s : State) : (retire d l s).aflRun = s.aflRun := rfl
@[simp] theorem retire_mode (d : Nat) (l : Label) (s : State) : (retire d l s).mode = s.mode := rfl
@[simp] theorem retire_alarmState (d : Nat) (l : Label) (s : State) : (retire d l s).alarmState = s.alarmState := rfl
@[simp] theorem retire_led (d : Nat) (l : Label) (s : State) : (retire d l s).led = s.led := rfl
@[simp] theorem retire_pN (d : Nat) (l : Label) (s : State) : (retire d l s).pN = s.pN := rfl
@[simp] theorem retire_moEnN (d : Nat) (l : Label) (s : State) : (retire d l s).moEnN = s.moEnN := rfl
@[simp] theorem retire_onEnN (d : Nat) (l : Label) (s : State) : (retire d l s).onEnN = s.onEnN := rfl
@[simp] theorem retire_pulse (d : Nat) (l : Label) (s : State) : (retire d l s).pulse = s.pulse := rfl
@[simp] theorem retire_guideN (d : Nat) (l : Label) (s : State) : (retire d l s).guideN = s.guideN := rfl
@[simp] theorem retire_laserEn (d : Nat) (l : Label) (s : State) : (retire d l s).laserEn = s.laserEn := rfl
@[simp] theorem retire_displayCode (d : Nat) (l : Label) (s : State) : (retire d l s).displayCode = s.displayCode := rfl
@[simp] theorem retire_samp (d : Nat) (l : Label) (s : State) : (retire d l s).samp = s.samp := rfl
@[simp] theorem retire_ppgCnt (d : Nat) (l : Label) (s : State) : (retire d l s).ppgCnt = s.ppgCnt := rfl
@[simp] theorem retire_aflCnt (d : Nat) (l : Label) (s : State) : (retire d l s).aflCnt = s.aflCnt := rfl
@[simp] theorem retire_seqHold (d : Nat) (l : Label) (s : State) : (retire d l s).seqHold = d := rfl
@[simp] theorem retire_inp (d : Nat) (l : Label) (s : State) : (retire d l s).inp = s.inp := rfl
@[simp] theorem retire_now (d : Nat) (l : Label) (s : State) : (retire d l s).now = s.now := rfl
@[simp] theorem retire_cand (d : Nat) (l : Label) (s : State) : (retire d l s).cand = s.cand := rfl
@[simp] theorem retire_agenda (d : Nat) (l : Label) (s : State) : (retire d l s).agenda = s.agenda := rfl
@[simp] theorem retire_draws (d : Nat) (l : Label) (s : State) : (retire d l s).draws = s.draws := rfl
@[simp] theorem retire_env (d : Nat) (l : Label) (s : State) : (retire d l s).env = s.env := rfl
@[simp] theorem retire_patience (d : Nat) (l : Label) (s : State) : (retire d l s).patience = s.patience := rfl

/-! ### settleCand -/

@[simp] theorem settleCand_powerLevel (s : State) : (settleCand s).powerLevel = s.powerLevel := rfl
@[simp] theorem settleCand_rateR (s : State) : (settleCand s).rateR = s.rateR := rfl
@[simp] theorem settleCand_seqPc (s : State) : (settleCand s).seqPc = s.seqPc := rfl
@[simp] theorem settleCand_gate (s : State) : (settleCand s).gate = s.gate := rfl
@[simp] theorem settleCand_aflRun (s : State) : (settleCand s).aflRun = s.aflRun := rfl
@[simp] theorem settleCand_mode (s : State) : (settleCand s).mode = s.mode := rfl
@[simp] theorem settleCand_alarmState (s : State) : (settleCand s).alarmState = s.alarmState := rfl
@[simp] theorem settleCand_led (s : State) : (settleCand s).led = s.led := rfl
@[simp] theorem settleCand_pN (s : State) : (settleCand s).pN = s.pN := rfl
@[simp] theorem settleCand_moEnN (s : State) : (settleCand s).moEnN = s.moEnN := rfl
@[simp] theorem settleCand_onEnN (s : State) : (settleCand s).onEnN = s.onEnN := rfl
@[simp] theorem settleCand_pulse (s : State) : (settleCand s).pulse = s.pulse := rfl
@[simp] theorem settleCand_guideN (s : State) : (settleCand s).guideN = s.guideN := rfl
@[simp] theorem settleCand_laserEn (s : State) : (settleCand s).laserEn = s.laserEn := rfl
@[simp] theorem settleCand_displayCode (s : State) : (settleCand s).displayCode = s.displayCode := rfl
@[simp] theorem settleCand_samp (s : State) : (settleCand s).samp = s.samp := rfl
@[simp] theorem settleCand_ppgCnt (s : State) : (settleCand s).ppgCnt = s.ppgCnt := rfl
@[simp] theorem settleCand_aflCnt (s : State) : (settleCand s).aflCnt = s.aflCnt := rfl
@[simp] theorem settleCand_seqHold (s : State) : (settleCand s).seqHold = s.seqHold := rfl
@[simp] theorem settleCand_inp (s : State) : (settleCand s).inp = s.inp := rfl
@[simp] theorem settleCand_now (s : State) : (settleCand s).now = s.now := rfl
@[simp] theorem settleCand_cand (s : State) : (settleCand s).cand = candidate s.samp := rfl
@[simp] theorem settleCand_agenda (s : State) : (settleCand s).agenda = s.agenda := rfl
@[simp] theorem settleCand_draws (s : State) : (settleCand s).draws = s.draws := rfl
@[simp] theorem settleCand_env (s : State) : (settleCand s).env = s.env := rfl
@[simp] theorem settleCand_patience (s : State) : (settleCand s).patience = s.patience := rfl

/-! ### writeMode -/

@[simp] theorem writeMode_powerLevel (s : State) : (writeMode s).powerLevel = s.powerLevel := rfl
@[simp] theorem writeMode_rateR (s : State) : (writeMode s).rateR = s.rateR := rfl
@[simp] theorem writeMode_seqPc (s : State) : (writeMode s).seqPc = s.seqPc := rfl
@[simp] theorem writeMode_gate (s : State) : (writeMode s).gate = s.gate := rfl
@[simp] theorem writeMode_aflRun (s : State) : (writeMode s).aflRun = s.aflRun := rfl
@[simp] theorem writeMode_mode (s : State) : (writeMode s).mode = s.cand := rfl
@[simp] theorem writeMode_alarmState (s : State) : (writeMode s).alarmState = s.alarmState := rfl
@[simp] theorem writeMode_led (s : State) : (writeMode s).led = s.led := rfl
@[simp] theorem writeMode_pN (s : State) : (writeMode s).pN = s.pN := rfl
@[simp] theorem writeMode_moEnN (s : State) : (writeMode s).moEnN = s.moEnN := rfl
@[simp] theorem writeMode_onEnN (s : State) : (writeMode s).onEnN = s.onEnN := rfl
@[simp] theorem writeMode_pulse (s : State) : (writeMode s).pulse = s.pulse := rfl
@[simp] theorem writeMode_guideN (s : State) : (writeMode s).guideN = s.guideN := rfl
@[simp] theorem writeMode_laserEn (s : State) : (writeMode s).laserEn = s.laserEn := rfl
@[simp] theorem writeMode_displayCode (s : State) : (writeMode s).displayCode = s.displayCode := rfl
@[simp] theorem writeMode_samp (s : State) : (writeMode s).samp = s.samp := rfl
@[simp] theorem writeMode_ppgCnt (s : State) : (writeMode s).ppgCnt = s.ppgCnt := rfl
@[simp] theorem writeMode_aflCnt (s : State) : (writeMode s).aflCnt = s.aflCnt := rfl
@[simp] theorem writeMode_seqHold (s : State) : (writeMode s).seqHold = s.seqHold := rfl
@[simp] theorem writeMode_inp (s : State) : (writeMode s).inp = s.inp := rfl
@[simp] theorem writeMode_now (s : State) : (writeMode s).now = s.now := rfl
@[simp] theorem writeMode_cand (s : State) : (writeMode s).cand = s.cand := rfl
@[simp] theorem writeMode_agenda (s : State) : (writeMode s).agenda = s.agenda := rfl
@[simp] theorem writeMode_draws (s : State) : (writeMode s).draws = s.draws := rfl
@[simp] theorem writeMode_env (s : State) : (writeMode s).env = s.env := rfl
@[simp] theorem writeMode_patience (s : State) : (writeMode s).patience = s.patience := rfl

/-! ### writePower -/

@[simp] theorem writePower_powerLevel (v : Byte) (s : State) : (writePower v s).powerLevel = v := rfl
@[simp] theorem writePower_rateR (v : Byte) (s : State) : (writePower v s).rateR = s.rateR := rfl
@[simp] theorem writePower_seqPc (v : Byte) (s : State) : (writePower v s).seqPc = s.seqPc := rfl
@[simp] theorem writePower_gate (v : Byte) (s : State) : (writePower v s).gate = s.gate := rfl
@[simp] theorem writePower_aflRun (v : Byte) (s : State) : (writePower v s).aflRun = s.aflRun := rfl
@[simp] theorem writePower_mode (v : Byte) (s : State) : (writePower v s).mode = s.mode := rfl
@[simp] theorem writePower_alarmState (v : Byte) (s : State) : (writePower v s).alarmState = s.alarmState := rfl
@[simp] theorem writePower_led (v : Byte) (s : State) : (writePower v s).led = s.led := rfl
@[simp] theorem writePower_pN (v : Byte) (s : State) : (writePower v s).pN = ~~~v := rfl
@[simp] theorem writePower_moEnN (v : Byte) (s : State) : (writePower v s).moEnN = s.moEnN := rfl
@[simp] theorem writePower_onEnN (v : Byte) (s : State) : (writePower v s).onEnN = s.onEnN := rfl
@[simp] theorem writePower_pulse (v : Byte) (s : State) : (writePower v s).pulse = s.pulse := rfl
@[simp] theorem writePower_guideN (v : Byte) (s : State) : (writePower v s).guideN = s.guideN := rfl
@[simp] theorem writePower_laserEn (v : Byte) (s : State) : (writePower v s).laserEn = s.laserEn := rfl
@[simp] theorem writePower_displayCode (v : Byte) (s : State) : (writePower v s).displayCode = s.displayCode := rfl
@[simp] theorem writePower_samp (v : Byte) (s : State) : (writePower v s).samp = s.samp := rfl
@[simp] theorem writePower_ppgCnt (v : Byte) (s : State) : (writePower v s).ppgCnt = s.ppgCnt := rfl
@[simp] theorem writePower_aflCnt (v : Byte) (s : State) : (writePower v s).aflCnt = s.aflCnt := rfl
@[simp] theorem writePower_seqHold (v : Byte) (s : State) : (writePower v s).seqHold = s.seqHold := rfl
@[simp] theorem writePower_inp (v : Byte) (s : State) : (writePower v s).inp = s.inp := rfl
@[simp] theorem writePower_now (v : Byte) (s : State) : (writePower v s).now = s.now := rfl
@[simp] theorem writePower_cand (v : Byte) (s : State) : (writePower v s).cand = s.cand := rfl
@[simp] theorem writePower_agenda (v : Byte) (s : State) : (writePower v s).agenda = s.agenda := rfl
@[simp] theorem writePower_draws (v : Byte) (s : State) : (writePower v s).draws = s.draws := rfl
@[simp] theorem writePower_env (v : Byte) (s : State) : (writePower v s).env = s.env := rfl
@[simp] theorem writePower_patience (v : Byte) (s : State) : (writePower v s).patience = s.patience := rfl

/-! ### writeRate -/

@[simp] theorem writeRate_powerLevel (r : Byte) (s : State) : (writeRate r s).powerLevel = s.powerLevel := rfl
@[simp] theorem writeRate_rateR (r : Byte) (s : State) : (writeRate r s).rateR = r := rfl
@[simp] theorem writeRate_seqPc (r : Byte) (s : State) : (writeRate r s).seqPc = s.seqPc := rfl
@[simp] theorem writeRate_gate (r : Byte) (s : State) : (writeRate r s).gate = s.gate := rfl
@[simp] theorem writeRate_aflRun (r : Byte) (s : State) : (writeRate r s).aflRun = s.aflRun := rfl
@[simp] theorem writeRate_mode (r : Byte) (s : State) : (writeRate r s).mode = s.mode := rfl
@[simp] theorem writeRate_alarmState (r : Byte) (s : State) : (writeRate r s).alarmState = s.alarmState := rfl
@[simp] theorem writeRate_led (r : Byte) (s : State) : (writeRate r s).led = s.led := rfl
@[simp] theorem writeRate_pN (r : Byte) (s : State) : (writeRate r s).pN = s.pN := rfl
@[simp] theorem writeRate_moEnN (r : Byte) (s : State) : (writeRate r s).moEnN = s.moEnN := rfl
@[simp] theorem writeRate_onEnN (r : Byte) (s : State) : (writeRate r s).onEnN = s.onEnN := rfl
@[simp] theorem writeRate_pulse (r : Byte) (s : State) : (writeRate r s).pulse = s.pulse := rfl
@[simp] theorem writeRate_guideN (r : Byte) (s : State) : (writeRate r s).guideN = s.guideN := rfl
@[simp] theorem writeRate_laserEn (r : Byte) (s : State) : (writeRate r s).laserEn = s.laserEn := rfl
@[simp] theorem writeRate_displayCode (r : Byte) (s : State) : (writeRate r s).displayCode = s.displayCode := rfl
@[simp] theorem writeRate_samp (r : Byte) (s : State) : (writeRate r s).samp = s.samp := rfl
@[simp] theorem writeRate_ppgCnt (r : Byte) (s : State) : (writeRate r s).ppgCnt = halfTicks r := rfl
@[simp] theorem writeRate_aflCnt (r : Byte) (s : State) : (writeRate r s).aflCnt = s.aflCnt := rfl
@[simp] theorem writeRate_seqHold (r : Byte) (s : State) : (writeRate r s).seqHold = s.seqHold := rfl
@[simp] theorem writeRate_inp (r : Byte) (s : State) : (writeRate r s).inp = s.inp := rfl
@[simp] theorem writeRate_now (r : Byte) (s : State) : (writeRate r s).now = s.now := rfl
@[simp] theorem writeRate_cand (r : Byte) (s : State) : (writeRate r s).cand = s.cand := rfl
@[simp] theorem writeRate_agenda (r : Byte) (s : State) : (writeRate r s).agenda = s.agenda := rfl
@[simp] theorem writeRate_draws (r : Byte) (s : State) : (writeRate r s).draws = s.draws := rfl
@[simp] theorem writeRate_env (r : Byte) (s : State) : (writeRate r s).env = s.env := rfl
@[simp] theorem writeRate_patience (r : Byte) (s : State) : (writeRate r s).patience = s.patience := rfl

/-! ### writeDisplay -/

@[simp] theorem writeDisplay_powerLevel (x : Frac) (s : State) : (writeDisplay x s).powerLevel = s.powerLevel := rfl
@[simp] theorem writeDisplay_rateR (x : Frac) (s : State) : (writeDisplay x s).rateR = s.rateR := rfl
@[simp] theorem writeDisplay_seqPc (x : Frac) (s : State) : (writeDisplay x s).seqPc = s.seqPc := rfl
@[simp] theorem writeDisplay_gate (x : Frac) (s : State) : (writeDisplay x s).gate = s.gate := rfl
@[simp] theorem writeDisplay_aflRun (x : Frac) (s : State) : (writeDisplay x s).aflRun = s.aflRun := rfl
@[simp] theorem writeDisplay_mode (x : Frac) (s : State) : (writeDisplay x s).mode = s.mode := rfl
@[simp] theorem writeDisplay_alarmState (x : Frac) (s : State) : (writeDisplay x s).alarmState = s.alarmState := rfl
@[simp] theorem writeDisplay_led (x : Frac) (s : State) : (writeDisplay x s).led = s.led := rfl
@[simp] theorem writeDisplay_pN (x : Frac) (s : State) : (writeDisplay x s).pN = s.pN := rfl
@[simp] theorem writeDisplay_moEnN (x : Frac) (s : State) : (writeDisplay x s).moEnN = s.moEnN := rfl
@[simp] theorem writeDisplay_onEnN (x : Frac) (s : State) : (writeDisplay x s).onEnN = s.onEnN := rfl
@[simp] theorem writeDisplay_pulse (x : Frac) (s : State) : (writeDisplay x s).pulse = s.pulse := rfl
@[simp] theorem writeDisplay_guideN (x : Frac) (s : State) : (writeDisplay x s).guideN = s.guideN := rfl
@[simp] theorem writeDisplay_laserEn (x : Frac) (s : State) : (writeDisplay x s).laserEn = s.laserEn := rfl
@[simp] theorem writeDisplay_displayCode (x : Frac) (s : State) : (writeDisplay x s).displayCode = disp x := rfl
@[simp] theorem writeDisplay_samp (x : Frac) (s : State) : (writeDisplay x s).samp = s.samp := rfl
@[simp] theorem writeDisplay_ppgCnt (x : Frac) (s : State) : (writeDisplay x s).ppgCnt = s.ppgCnt := rfl
@[simp] theorem writeDisplay_aflCnt (x : Frac) (s : State) : (writeDisplay x s).aflCnt = s.aflCnt := rfl
@[simp] theorem writeDisplay_seqHold (x : Frac) (s : State) : (writeDisplay x s).seqHold = s.seqHold := rfl
@[simp] theorem writeDisplay_inp (x : Frac) (s : State) : (writeDisplay x s).inp = s.inp := rfl
@[simp] theorem writeDisplay_now (x : Frac) (s : State) : (writeDisplay x s).now = s.now := rfl
@[simp] theorem writeDisplay_cand (x : Frac) (s : State) : (writeDisplay x s).cand = s.cand := rfl
@[simp] theorem writeDisplay_agenda (x : Frac) (s : State) : (writeDisplay x s).agenda = s.agenda := rfl
@[simp] theorem writeDisplay_draws (x : Frac) (s : State) : (writeDisplay x s).draws = s.draws := rfl
@[simp] theorem writeDisplay_env (x : Frac) (s : State) : (writeDisplay x s).env = s.env := rfl
@[simp] theorem writeDisplay_patience (x : Frac) (s : State) : (writeDisplay x s).patience = s.patience := rfl

/-! ### clearGate -/

@[simp] theorem clearGate_powerLevel (s : State) : (clearGate s).powerLevel = s.powerLevel := rfl
@[simp] theorem clearGate_rateR (s : State) : (clearGate s).rateR = s.rateR := rfl
@[simp] theorem clearGate_seqPc (s : State) : (clearGate s).seqPc = s.seqPc := rfl
@[simp] theorem clearGate_gate (s : State) : (clearGate s).gate = 0#1 := rfl
@[simp] theorem clearGate_aflRun (s : State) : (clearGate s).aflRun = s.aflRun := rfl
@[simp] theorem clearGate_mode (s : State) : (clearGate s).mode = s.mode := rfl
@[simp] theorem clearGate_alarmState (s : State) : (clearGate s).alarmState = s.alarmState := rfl
@[simp] theorem clearGate_led (s : State) : (clearGate s).led = s.led := rfl
@[simp] theorem clearGate_pN (s : State) : (clearGate s).pN = s.pN := rfl
@[simp] theorem clearGate_moEnN (s : State) : (clearGate s).moEnN = s.moEnN := rfl
@[simp] theorem clearGate_onEnN (s : State) : (clearGate s).onEnN = s.onEnN := rfl
@[simp] theorem clearGate_pulse (s : State) : (clearGate s).pulse = s.pulse := rfl
@[simp] theorem clearGate_guideN (s : State) : (clearGate s).guideN = s.guideN := rfl
@[simp] theorem clearGate_laserEn (s : State) : (clearGate s).laserEn = s.laserEn := rfl
@[simp] theorem clearGate_displayCode (s : State) : (clearGate s).displayCode = s.displayCode := rfl
@[simp] theorem clearGate_samp (s : State) : (clearGate s).samp = s.samp := rfl
@[simp] theorem clearGate_ppgCnt (s : State) : (clearGate s).ppgCnt = s.ppgCnt := rfl
@[simp] theorem clearGate_aflCnt (s : State) : (clearGate s).aflCnt = s.aflCnt := rfl
@[simp] theorem clearGate_seqHold (s : State) : (clearGate s).seqHold = s.seqHold := rfl
@[simp] theorem clearGate_inp (s : State) : (clearGate s).inp = s.inp := rfl
@[simp] theorem clearGate_now (s : State) : (clearGate s).now = s.now := rfl
@[simp] theorem clearGate_cand (s : State) : (clearGate s).cand = s.cand := rfl
@[simp] theorem clearGate_agenda (s : State) : (clearGate s).agenda = s.agenda := rfl
@[simp] theorem clearGate_draws (s : State) : (clearGate s).draws = s.draws := rfl
@[simp] theorem clearGate_env (s : State) : (clearGate s).env = s.env := rfl
@[simp] theorem clearGate_patience (s : State) : (clearGate s).patience = s.patience := rfl

/-! ### passTick -/

@[simp] theorem passTick_powerLevel (s : State) : (passTick s).powerLevel = s.powerLevel := rfl
@[simp] theorem passTick_rateR (s : State) : (passTick s).rateR = s.rateR := rfl
@[simp] theorem passTick_seqPc (s : State) : (passTick s).seqPc = s.seqPc := rfl
@[simp] theorem passTick_gate (s : State) : (passTick s).gate = s.gate := rfl
@[simp] theorem passTick_aflRun (s : State) : (passTick s).aflRun = s.aflRun := rfl
@[simp] theorem passTick_mode (s : State) : (passTick s).mode = s.mode := rfl
@[simp] theorem passTick_alarmState (s : State) : (passTick s).alarmState = s.alarmState := rfl
@[simp] theorem passTick_led (s : State) : (passTick s).led = s.led := rfl
@[simp] theorem passTick_pN (s : State) : (passTick s).pN = s.pN := rfl
@[simp] theorem passTick_moEnN (s : State) : (passTick s).moEnN = s.moEnN := rfl
@[simp] theorem passTick_onEnN (s : State) : (passTick s).onEnN = s.onEnN := rfl
@[simp] theorem passTick_pulse (s : State) : (passTick s).pulse = s.pulse := rfl
@[simp] theorem passTick_guideN (s : State) : (passTick s).guideN = s.guideN := rfl
@[simp] theorem passTick_laserEn (s : State) : (passTick s).laserEn = s.laserEn := rfl
@[simp] theorem passTick_displayCode (s : State) : (passTick s).displayCode = s.displayCode := rfl
@[simp] theorem passTick_samp (s : State) : (passTick s).samp = s.samp := rfl
@[simp] theorem passTick_ppgCnt (s : State) : (passTick s).ppgCnt = s.ppgCnt - 1 := rfl
@[simp] theorem passTick_aflCnt (s : State) : (passTick s).aflCnt = if s.aflRun = 1#1 then s.aflCnt - 1 else s.aflCnt := rfl
@[simp] theorem passTick_seqHold (s : State) : (passTick s).seqHold = s.seqHold - 1 := rfl
@[simp] theorem passTick_inp (s : State) : (passTick s).inp = s.inp := rfl
@[simp] theorem passTick_now (s : State) : (passTick s).now = s.now + 1 := rfl
@[simp] theorem passTick_cand (s : State) : (passTick s).cand = s.cand := rfl
@[simp] theorem passTick_agenda (s : State) : (passTick s).agenda = s.agenda := rfl
@[simp] theorem passTick_draws (s : State) : (passTick s).draws = s.draws := rfl
@[simp] theorem passTick_env (s : State) : (passTick s).env = s.env := rfl
@[simp] theorem passTick_patience (s : State) : (passTick s).patience = s.patience := rfl

/-! ### doPulseTick -/

@[simp] theorem doPulseTick_powerLevel (s : State) : (doPulseTick s).powerLevel = s.powerLevel := rfl
@[simp] theorem doPulseTick_rateR (s : State) : (doPulseTick s).rateR = s.rateR := rfl
@[simp] theorem doPulseTick_seqPc (s : State) : (doPulseTick s).seqPc = s.seqPc := rfl
@[simp] theorem doPulseTick_gate (s : State) : (doPulseTick s).gate = s.gate := rfl
@[simp] theorem doPulseTick_aflRun (s : State) : (doPulseTick s).aflRun = s.aflRun := rfl
@[simp] theorem doPulseTick_mode (s : State) : (doPulseTick s).mode = s.mode := rfl
@[simp] theorem doPulseTick_alarmState (s : State) : (doPulseTick s).alarmState = s.alarmState := rfl
@[simp] theorem doPulseTick_led (s : State) : (doPulseTick s).led = s.led := rfl
@[simp] theorem doPulseTick_pN (s : State) : (doPulseTick s).pN = s.pN := rfl
@[simp] theorem doPulseTick_moEnN (s : State) : (doPulseTick s).moEnN = s.moEnN := rfl
@[simp] theorem doPulseTick_onEnN (s : State) : (doPulseTick s).onEnN = s.onEnN := rfl
@[simp] theorem doPulseTick_pulse (s : State) : (doPulseTick s).pulse = ~~~s.pulse := rfl
@[simp] theorem doPulseTick_guideN (s : State) : (doPulseTick s).guideN = s.guideN := rfl
@[simp] theorem doPulseTick_laserEn (s : State) : (doPulseTick s).laserEn = laserEnOf s.gate := rfl
@[simp] theorem doPulseTick_displayCode (s : State) : (doPulseTick s).displayCode = s.displayCode := rfl
@[simp] theorem doPulseTick_samp (s : State) : (doPulseTick s).samp = s.samp := rfl
@[simp] theorem doPulseTick_ppgCnt (s : State) : (doPulseTick s).ppgCnt = halfTicks s.rateR := rfl
@[simp] theorem doPulseTick_aflCnt (s : State) : (doPulseTick s).aflCnt = s.aflCnt := rfl
@[simp] theorem doPulseTick_seqHold (s : State) : (doPulseTick s).seqHold = s.seqHold := rfl
@[simp] theorem doPulseTick_inp (s : State) : (doPulseTick s).inp = s.inp := rfl
@[simp] theorem doPulseTick_now (s : State) : (doPulseTick s).now = s.now := rfl
@[simp] theorem doPulseTick_cand (s : State) : (doPulseTick s).cand = s.cand := rfl
@[simp] theorem doPulseTick_agenda (s : State) : (doPulseTick s).agenda = s.agenda := rfl
@[simp] theorem doPulseTick_draws (s : State) : (doPulseTick s).draws = s.draws := rfl
@[simp] theorem doPulseTick_env (s : State) : (doPulseTick s).env = s.env := rfl
@[simp] theorem doPulseTick_patience (s : State) : (doPulseTick s).patience = s.patience := rfl

/-! ### doFlashTick -/

@[simp] theorem doFlashTick_powerLevel (s : State) : (doFlashTick s).powerLevel = s.powerLevel := rfl
@[simp] theorem doFlashTick_rateR (s : State) : (doFlashTick s).rateR = s.rateR := rfl
@[simp] theorem doFlashTick_seqPc (s : State) : (doFlashTick s).seqPc = s.seqPc := rfl
@[simp] theorem doFlashTick_gate (s : State) : (doFlashTick s).gate = s.gate := rfl
@[simp] theorem doFlashTick_aflRun (s : State) : (doFlashTick s).aflRun = s.aflRun := rfl
@[simp] theorem doFlashTick_mode (s : State) : (doFlashTick s).mode = s.mode := rfl
@[simp] theorem doFlashTick_alarmState (s : State) : (doFlashTick s).alarmState = s.alarmState := rfl
@[simp] theorem doFlashTick_led (s : State) : (doFlashTick s).led = ~~~s.led := rfl
@[simp] theorem doFlashTick_pN (s : State) : (doFlashTick s).pN = s.pN := rfl
@[simp] theorem doFlashTick_moEnN (s : State) : (doFlashTick s).moEnN = s.moEnN := rfl
@[simp] theorem doFlashTick_onEnN (s : State) : (doFlashTick s).onEnN = s.onEnN := rfl
@[simp] theorem doFlashTick_pulse (s : State) : (doFlashTick s).pulse = s.pulse := rfl
@[simp] theorem doFlashTick_guideN (s : State) : (doFlashTick s).guideN = s.guideN := rfl
@[simp] theorem doFlashTick_laserEn (s : State) : (doFlashTick s).laserEn = s.laserEn := rfl
@[simp] theorem doFlashTick_displayCode (s : State) : (doFlashTick s).displayCode = s.displayCode := rfl
@[simp] theorem doFlashTick_samp (s : State) : (doFlashTick s).samp = s.samp := rfl
@[simp] theorem doFlashTick_ppgCnt (s : State) : (doFlashTick s).ppgCnt = s.ppgCnt := rfl
@[simp] theorem doFlashTick_aflCnt (s : State) : (doFlashTick s).aflCnt = oneSecTicks := rfl
@[simp] theorem doFlashTick_seqHold (s : State) : (doFlashTick s).seqHold = s.seqHold := rfl
@[simp] theorem doFlashTick_inp (s : State) : (doFlashTick s).inp = s.inp := rfl
@[simp] theorem doFlashTick_now (s : State) : (doFlashTick s).now = s.now := rfl
@[simp] theorem doFlashTick_cand (s : State) : (doFlashTick s).cand = s.cand := rfl
@[simp] theorem doFlashTick_agenda (s : State) : (doFlashTick s).agenda = s.agenda := rfl
@[simp] theorem doFlashTick_draws (s : State) : (doFlashTick s).draws = s.draws := rfl
@[simp] theorem doFlashTick_env (s : State) : (doFlashTick s).env = s.env := rfl
@[simp] theorem doFlashTick_patience (s : State) : (doFlashTick s).patience = s.patience := rfl

/-! ### doReset, at the fields to which the spec gives a reset value and the model's own -/

@[simp] theorem doReset_powerLevel (s : State) : (doReset s).powerLevel = 0#8 := rfl
@[simp] theorem doReset_rateR (s : State) : (doReset s).rateR = Config.rateReset := rfl
@[simp] theorem doReset_seqPc (s : State) : (doReset s).seqPc = .cSample := rfl
@[simp] theorem doReset_gate (s : State) : (doReset s).gate = Config.gateReset := rfl
@[simp] theorem doReset_aflRun (s : State) : (doReset s).aflRun = 0#1 := rfl
@[simp] theorem doReset_mode (s : State) : (doReset s).mode = 7#3 := rfl
@[simp] theorem doReset_alarmState (s : State) : (doReset s).alarmState = 0#3 := rfl
@[simp] theorem doReset_led (s : State) : (doReset s).led = 0#1 := rfl
@[simp] theorem doReset_pN (s : State) : (doReset s).pN = 0xFF#8 := rfl
@[simp] theorem doReset_moEnN (s : State) : (doReset s).moEnN = 1#1 := rfl
@[simp] theorem doReset_onEnN (s : State) : (doReset s).onEnN = 1#1 := rfl
@[simp] theorem doReset_pulse (s : State) : (doReset s).pulse = 0#1 := rfl
@[simp] theorem doReset_guideN (s : State) : (doReset s).guideN = 0#1 := rfl
@[simp] theorem doReset_laserEn (s : State) : (doReset s).laserEn = 0#1 := rfl
@[simp] theorem doReset_displayCode (s : State) : (doReset s).displayCode = 0#12 := rfl
@[simp] theorem doReset_ppgCnt (s : State) : (doReset s).ppgCnt = halfTicks Config.rateReset := rfl
@[simp] theorem doReset_seqHold (s : State) : (doReset s).seqHold = 0 := rfl
@[simp] theorem doReset_now (s : State) : (doReset s).now = 0 := rfl
@[simp] theorem doReset_inp (s : State) : (doReset s).inp = s.inp := rfl
@[simp] theorem doReset_agenda (s : State) : (doReset s).agenda = s.agenda := rfl
@[simp] theorem doReset_draws (s : State) : (doReset s).draws = s.draws := rfl
@[simp] theorem doReset_env (s : State) : (doReset s).env = s.env := rfl
@[simp] theorem doReset_patience (s : State) : (doReset s).patience = s.patience := rfl

end Sys2Proof.Machine
end

