-- ==== Sys2Proof/Laws/Time.lean ====
section
/-! SUPPORT. What the passing of time can do: the registers it leaves alone, the clock, and the counters. -/

namespace Sys2Proof.Machine

theorem sameSeqRegs_refl (s : State) : sameSeqRegs s s := by simp [sameSeqRegs]

theorem sameSeqRegs_trans {s t u : State} (h : sameSeqRegs s t) (k : sameSeqRegs t u) : sameSeqRegs s u := by
  simp only [sameSeqRegs] at *
  obtain ⟨h1, h2, h3, h4, h5, h6, h7, h8, h9, h10, h11, h12, h13, h14, h15⟩ := h
  obtain ⟨k1, k2, k3, k4, k5, k6, k7, k8, k9, k10, k11, k12, k13, k14, k15⟩ := k
  exact ⟨k1.trans h1, k2.trans h2, k3.trans h3, k4.trans h4, k5.trans h5, k6.trans h6, k7.trans h7, k8.trans h8,
    k9.trans h9, k10.trans h10, k11.trans h11, k12.trans h12, k13.trans h13, k14.trans h14, k15.trans h15⟩

/-- What a timer operation that may be due can do: it touches its output and its counter, and leaves none at 0. -/
theorem firePulse_spec (s : State) :
    sameSeqRegs s (firePulse s) ∧ (firePulse s).seqPc = s.seqPc ∧ (firePulse s).seqHold = s.seqHold ∧
    (firePulse s).now = s.now ∧ (firePulse s).draws = s.draws ∧ (firePulse s).led = s.led ∧
    (firePulse s).aflCnt = s.aflCnt ∧ 1 ≤ (firePulse s).ppgCnt ∧
    (firePulse s).ppgCnt ≤ max s.ppgCnt (halfTicks s.rateR) := by
  have h1 := one_le_halfTicks s.rateR
  unfold firePulse
  split
  · simp [sameSeqRegs, h1]
  · rename_i h
    simp only [pulseDue, beq_iff_eq] at h
    simp [sameSeqRegs]; omega

/-- The same of FLASH_TICK. -/
theorem fireFlash_spec (s : State) :
    sameSeqRegs s (fireFlash s) ∧ (fireFlash s).seqPc = s.seqPc ∧ (fireFlash s).seqHold = s.seqHold ∧
    (fireFlash s).now = s.now ∧ (fireFlash s).draws = s.draws ∧ (fireFlash s).pulse = s.pulse ∧
    (fireFlash s).laserEn = s.laserEn ∧ (fireFlash s).ppgCnt = s.ppgCnt ∧
    (s.aflRun = 1#1 → 1 ≤ (fireFlash s).aflCnt) ∧
    (fireFlash s).aflCnt ≤ max s.aflCnt oneSecTicks := by
  have h1 := one_le_oneSecTicks
  unfold fireFlash
  split
  · simp [sameSeqRegs, h1]
  · rename_i h
    simp only [flashDue, Bool.and_eq_true, beq_iff_eq, not_and] at h
    refine ⟨sameSeqRegs_refl s, rfl, rfl, rfl, rfl, rfl, rfl, rfl, fun hr => ?_, le_max_left _ _⟩
    exact Nat.one_le_iff_ne_zero.mpr (h hr)

/-- After the due timer operations none is due: ADVANCE is enabled (20_memory.md R59). -/
theorem timerDue_fireDue (s : State) : timerDue (fireDue s) = false := by
  obtain ⟨h1, -, -, -, -, -, -, hp, -⟩ := firePulse_spec s
  obtain ⟨h2, -, -, -, -, -, -, hq, ha, -⟩ := fireFlash_spec (firePulse s)
  have hr : (fireDue s).aflRun = (firePulse s).aflRun := h2.2.2.2.1
  have hq' : (fireDue s).ppgCnt = (firePulse s).ppgCnt := hq
  have ha' : (firePulse s).aflRun = 1#1 → 1 ≤ (fireDue s).aflCnt := ha
  have e1 : ((fireDue s).ppgCnt == 0) = false := by rw [beq_eq_false_iff_ne]; omega
  have e2 : ((fireDue s).aflRun == 1#1 && (fireDue s).aflCnt == 0) = false := by
    by_cases hc : (firePulse s).aflRun = 1#1
    · have : ((fireDue s).aflCnt == 0) = false := by rw [beq_eq_false_iff_ne]; have := ha' hc; omega
      rw [this, Bool.and_false]
    · have : ((fireDue s).aflRun == 1#1) = false := by rw [beq_eq_false_iff_ne, hr]; exact hc
      rw [this, Bool.false_and]
  simp only [timerDue, pulseDue, flashDue, e1, e2, Bool.or_false]

theorem fireDue_spec (s : State) :
    sameSeqRegs s (fireDue s) ∧ (fireDue s).seqPc = s.seqPc ∧ (fireDue s).seqHold = s.seqHold ∧
    (fireDue s).now = s.now ∧ (fireDue s).draws = s.draws ∧
    (fireDue s).ppgCnt ≤ max s.ppgCnt (halfTicks s.rateR) ∧ (fireDue s).aflCnt ≤ max s.aflCnt oneSecTicks := by
  obtain ⟨h1, p1, p2, p3, p4, p5, p6, p7, p8⟩ := firePulse_spec s
  obtain ⟨h2, q1, q2, q3, q4, q5, q6, q7, q8, q9⟩ := fireFlash_spec (firePulse s)
  refine ⟨sameSeqRegs_trans h1 h2, q1.trans p1, q2.trans p2, q3.trans p3, q4.trans p4, ?_, ?_⟩
  · exact (show (fireDue s).ppgCnt = _ from q7) ▸ p8
  · rw [p6] at q9; exact q9

/-- What `n` ticks can do: the registers of SEQ stay, the clock moves by `n`, the hold counts down. -/
theorem elapse_spec (n : Nat) (s : State) :
    sameSeqRegs s (elapse n s) ∧ (elapse n s).seqPc = s.seqPc ∧ (elapse n s).seqHold = s.seqHold - n ∧
    (elapse n s).now = s.now + n ∧ (elapse n s).draws = s.draws := by
  induction n generalizing s with
  | zero => simp [elapse, sameSeqRegs]
  | succ n ih =>
    obtain ⟨h1, p1, p2, p3, p4, -, -⟩ := fireDue_spec s
    obtain ⟨h2, q1, q2, q3, q4⟩ := ih (passTick (fireDue s))
    have hp : sameSeqRegs (fireDue s) (passTick (fireDue s)) := by simp [sameSeqRegs]
    refine ⟨sameSeqRegs_trans h1 (sameSeqRegs_trans hp h2), q1.trans p1, ?_, ?_, q4.trans p4⟩
    · rw [elapse, q2, passTick_seqHold, p2]; omega
    · rw [elapse, q3, passTick_now, p3]; omega

/-- What the timer operations do does not depend on the agenda nor on the count of draws. -/
theorem fireDue_bookkeeping (s : State) (ag : List Directive) (d : Nat) :
    fireDue { s with agenda := ag, draws := d } = { fireDue s with agenda := ag, draws := d } := by
  have hp : pulseDue { s with agenda := ag, draws := d } = pulseDue s := rfl
  have hf : flashDue { s with agenda := ag, draws := d } = flashDue s := rfl
  have hq : flashDue (doPulseTick { s with agenda := ag, draws := d }) = flashDue (doPulseTick s) := rfl
  unfold fireDue firePulse
  rw [hp]
  by_cases h : pulseDue s = true
  · rw [if_pos h, if_pos h]
    unfold fireFlash
    rw [hq]
    by_cases k : flashDue (doPulseTick s) = true
    · rw [if_pos k, if_pos k]; rfl
    · rw [if_neg k, if_neg k]; rfl
  · rw [if_neg h, if_neg h]
    unfold fireFlash
    rw [hf]
    by_cases k : flashDue s = true
    · rw [if_pos k, if_pos k]; rfl
    · rw [if_neg k, if_neg k]

/-- Nor does the passing of time. -/
theorem elapse_bookkeeping (n : Nat) (s : State) (ag : List Directive) (d : Nat) :
    elapse n { s with agenda := ag, draws := d } = { elapse n s with agenda := ag, draws := d } := by
  induction n generalizing s with
  | zero => rfl
  | succ n ih =>
    have h : passTick (fireDue { s with agenda := ag, draws := d }) =
        { passTick (fireDue s) with agenda := ag, draws := d } := by
      rw [fireDue_bookkeeping]; rfl
    rw [elapse, h, ih, elapse]

/-- The counters stay in range while time passes. -/
theorem elapse_countersInRange (n : Nat) (s : State) (h : countersInRange s) : countersInRange (elapse n s) := by
  induction n generalizing s with
  | zero => exact h
  | succ n ih =>
    refine ih _ ?_
    obtain ⟨h1, p1, p2, p3, p4, p5, p6⟩ := fireDue_spec s
    have hr := halfTicks_le_longest s.rateR
    have ha : (fireDue s).aflRun = s.aflRun := h1.2.2.2.1
    obtain ⟨c1, c2, c3⟩ := h
    refine ⟨?_, ?_, ?_⟩
    · rw [passTick_ppgCnt]; omega
    · rw [passTick_aflRun, passTick_aflCnt, ha]
      intro hc
      rw [if_pos hc]
      have := c2 hc
      omega
    · rw [passTick_seqHold, p2]; omega

/-- The timer operations and the passing of time leave ENV's moves alone. -/
theorem firePulse_env (s : State) : (firePulse s).env = s.env := by unfold firePulse; split <;> rfl

theorem fireFlash_env (s : State) : (fireFlash s).env = s.env := by unfold fireFlash; split <;> rfl

theorem elapse_env (n : Nat) (s : State) : (elapse n s).env = s.env := by
  induction n generalizing s with
  | zero => rfl
  | succ n ih => rw [elapse, ih, passTick_env, fireDue, fireFlash_env, firePulse_env]

theorem comeTo_env (τ : Nat → Lag) (s : State) : (comeTo τ s).env = s.env := by
  unfold comeTo
  dsimp only
  split <;> split <;> simp only [fireFlash_env, firePulse_env, elapse_env]

/-- How SEQ comes to its next micro-op: its registers stay, the hold has run out, and at least the hold has passed. -/
theorem comeTo_spec (τ : Nat → Lag) (s : State) :
    sameSeqRegs s (comeTo τ s) ∧ (comeTo τ s).seqPc = s.seqPc ∧ (comeTo τ s).seqHold = 0 ∧
    (comeTo τ s).now = s.now + s.seqHold + (τ s.draws).ticks ∧ (comeTo τ s).draws = s.draws + 1 := by
  obtain ⟨h1, p1, p2, p3, p4⟩ :=
    elapse_spec (s.seqHold + (τ s.draws).ticks) { s with draws := s.draws + 1 }
  have h0 : sameSeqRegs s { s with draws := s.draws + 1 } := by simp [sameSeqRegs]
  have base : ∀ t : State, sameSeqRegs { s with draws := s.draws + 1 } t → t.seqPc = s.seqPc →
      t.seqHold = 0 → t.now = s.now + s.seqHold + (τ s.draws).ticks → t.draws = s.draws + 1 →
      (let t2 := if (τ s.draws).flashFirst then fireFlash t else t
       sameSeqRegs s t2 ∧ t2.seqPc = s.seqPc ∧ t2.seqHold = 0 ∧
       t2.now = s.now + s.seqHold + (τ s.draws).ticks ∧ t2.draws = s.draws + 1) := by
    intro t ht a1 a2 a3 a4
    obtain ⟨k1, k2, k3, k4, k5, -⟩ := fireFlash_spec t
    dsimp only
    split
    · exact ⟨sameSeqRegs_trans h0 (sameSeqRegs_trans ht k1), k2.trans a1, k3.trans a2, k4.trans a3, k5.trans a4⟩
    · exact ⟨sameSeqRegs_trans h0 ht, a1, a2, a3, a4⟩
  have hs : (elapse (s.seqHold + (τ s.draws).ticks) { s with draws := s.draws + 1 }).seqHold = 0 := by
    rw [p2]; simp
  have hn : (elapse (s.seqHold + (τ s.draws).ticks) { s with draws := s.draws + 1 }).now =
      s.now + s.seqHold + (τ s.draws).ticks := by
    rw [p3]; simp [Nat.add_assoc]
  unfold comeTo
  dsimp only
  by_cases hp : (τ s.draws).pulseFirst = true
  · rw [if_pos hp]
    obtain ⟨k1, k2, k3, k4, k5, -⟩ :=
      firePulse_spec (elapse (s.seqHold + (τ s.draws).ticks) { s with draws := s.draws + 1 })
    exact base _ (sameSeqRegs_trans h1 k1) (k2.trans p1) (k3.trans hs) (k4.trans hn) (k5.trans p4)
  · rw [if_neg hp]
    exact base _ h1 p1 hs hn p4

end Sys2Proof.Machine
end

