-- ==== Sys2Proof/Laws/Composite.lean ====
section
/-! SUPPORT. What a sequence of micro-ops can do: in SEQ's registers what its micro-ops do back to back, and at least the sum
of their minimum durations in time, while ENV does nothing; and what it keeps whatever ENV does. -/

namespace Sys2Proof.Machine

/-- A micro-op of the minimum duration `d`: it reads and writes SEQ's registers alone, takes no time and holds SEQ for `d`. -/
structure ActsOnSeqRegs (d : Nat) (op : State → State) : Prop where
  regs : ∀ s t, sameSeqRegs s t → sameSeqRegs (op s) (op t)
  next : ∀ s t, sameSeqRegs s t → (op t).seqPc = (op s).seqPc
  clock : ∀ s, (op s).now = s.now
  hold : ∀ s, (op s).seqHold = d
  env : ∀ s, (op s).env = s.env

/-- The micro-ops one after another with no time between them. -/
def backToBack (ops : List (State → State)) (s : State) : State := ops.foldl (fun s op => op s) s

@[simp] theorem backToBack_nil (s : State) : backToBack [] s = s := rfl

@[simp] theorem backToBack_cons (op : State → State) (ops : List (State → State)) (s : State) :
    backToBack (op :: ops) s = backToBack ops (op s) := rfl

/-- With no moves of ENV to come, SEQ comes to its next micro-op. -/
theorem awaitSeq_calm (τ : Nat → Lag) {s : State} (h : s.env = []) : awaitSeq τ s = .ok (comeTo τ s) := by
  unfold awaitSeq; rw [h]

/-- A RESET that ENV makes before a micro-op ends the sequence there. -/
theorem awaitSeq_reset (τ : Nat → Lag) {s : State} {m : EnvMove} {rest : List EnvMove} (h : s.env = m :: rest)
    (hr : m.reset = true) :
    awaitSeq τ s = .error (doReset { s with inp := changeInputs m.change s.inp, env := rest }) := by
  unfold awaitSeq; rw [h]; simp [hr]

/-- An input change that ENV makes before a micro-op, RST being low after it, is in force at the micro-op. -/
theorem awaitSeq_change (τ : Nat → Lag) {s : State} {m : EnvMove} {rest : List EnvMove} (h : s.env = m :: rest)
    (hr : m.reset = false) (hl : (changeInputs m.change s.inp).rst = 0#1) :
    awaitSeq τ s = .ok (comeTo τ { s with inp := changeInputs m.change s.inp, env := rest }) := by
  unfold awaitSeq; rw [h]; simp [hr, resetHeld, hl]

theorem performAll_append (τ : Nat → Lag) (xs ys : List (State → State)) (s : State) :
    performAll τ (xs ++ ys) s = (performAll τ xs s).bind (performAll τ ys) := by
  induction xs generalizing s with
  | nil => rfl
  | cons op xs ih =>
    rw [List.cons_append, performAll, performAll]
    cases awaitSeq τ s with
    | error u => rfl
    | ok u => exact ih _

/-- What holds of where two sequences end, one after the other. -/
theorem ended_bind_keeps {P : State → Prop} {x : Except State State} {f : State → Except State State}
    (hx : P (ended x)) (hf : ∀ s, P s → P (ended (f s))) : P (ended (x.bind f)) := by
  cases x with
  | error u => exact hx
  | ok u => exact hf u hx

/-- What SEQ's coming to a micro-op, ENV's moves and every micro-op of a sequence keep, the sequence keeps, wherever it
ends. -/
theorem ended_performAll_keeps {P : State → Prop} (τ : Nat → Lag) (hc : ∀ s, P s → P (comeTo τ s))
    (hi : ∀ s c rest, P s → P { s with inp := changeInputs c s.inp, env := rest })
    (hr : ∀ s, P s → P (doReset s))
    {ops : List (State → State)} (ho : ∀ op ∈ ops, ∀ s, P s → P (op s)) :
    ∀ s, P s → P (ended (performAll τ ops s)) := by
  induction ops with
  | nil => intro s h; exact h
  | cons op ops ih =>
    intro s h
    have ha : P (ended (awaitSeq τ s)) := by
      unfold awaitSeq
      cases s.env with
      | nil => exact hc s h
      | cons m rest =>
        dsimp only
        split
        · exact hr _ (hi s m.change rest h)
        · exact hc _ (hi s m.change rest h)
    rw [performAll]
    exact ended_bind_keeps ha fun t ht =>
      ih (fun o m => ho o (List.mem_cons_of_mem _ m)) _ (ho op List.mem_cons_self _ ht)

/-- What a sequence of micro-ops with the durations `ds` can do while ENV does nothing, however SEQ comes to each of them. -/
theorem performAll_spec (τ : Nat → Lag) {ds : List Nat} {ops : List (State → State)}
    (h : List.Forall₂ ActsOnSeqRegs ds ops) :
    ∀ {s t : State}, t.env = [] → sameSeqRegs s t → t.seqPc = s.seqPc →
      ∃ u, performAll τ ops t = .ok u ∧ u.env = [] ∧ sameSeqRegs (backToBack ops s) u ∧
        u.seqPc = (backToBack ops s).seqPc ∧ t.now + t.seqHold + ds.sum ≤ u.now + u.seqHold := by
  induction h with
  | nil => intro s t he hs hp; exact ⟨t, rfl, he, hs, hp, by simp⟩
  | @cons d op ds ops ho _ ih =>
    intro s t he hs hp
    obtain ⟨a1, a2, a3, a4, -⟩ := comeTo_spec τ t
    have hw := sameSeqRegs_trans hs a1
    have hv : (op (comeTo τ t)).env = [] := (ho.env _).trans ((comeTo_env τ t).trans he)
    obtain ⟨u, c0, c1, c2, c3, c4⟩ := ih hv (ho.regs _ _ hw) (ho.next _ _ hw)
    refine ⟨u, ?_, c1, c2, c3, ?_⟩
    · rw [performAll, awaitSeq_calm τ he]; exact c0
    · rw [ho.clock, ho.hold, a4] at c4
      rw [List.sum_cons]
      exact le_trans (by omega) c4

/-- A sequence that came to its end ended with its last micro-op, whose duration SEQ now holds. -/
theorem performAll_seqHold (τ : Nat → Lag) (ops : List (State → State)) {d : Nat} {op : State → State}
    (h : ActsOnSeqRegs d op) {s u : State} (e : performAll τ (ops ++ [op]) s = .ok u) : u.seqHold = d := by
  rw [performAll_append] at e
  cases hx : performAll τ ops s with
  | error v => rw [hx] at e; cases e
  | ok v =>
    rw [hx] at e
    change (awaitSeq τ v).bind (fun t => performAll τ [] (op t)) = .ok u at e
    cases hy : awaitSeq τ v with
    | error w => rw [hy] at e; cases e
    | ok w => rw [hy] at e; cases e; exact h.hold w

/-! ### The micro-ops -/

theorem doSample_acts : ActsOnSeqRegs 1 doSample where
  regs s t h := by simp_all [doSample, sameSeqRegs]
  next _ _ _ := by simp [doSample]
  clock _ := by simp [doSample]
  hold _ := by simp [doSample, minDur]
  env _ := by simp [doSample]

theorem doDecide_acts : ActsOnSeqRegs 1 doDecide where
  regs s t h := by simp_all [doDecide, sameSeqRegs]
  next s t h := by simp_all [doDecide, sameSeqRegs]; rfl
  clock _ := by simp [doDecide]
  hold _ := by simp [doDecide, minDur]
  env _ := by simp [doDecide]

theorem doCommit_acts : ActsOnSeqRegs 1 doCommit where
  regs s t h := by simp_all [doCommit, sameSeqRegs]
  next _ _ _ := by simp [doCommit]
  clock _ := by simp [doCommit]
  hold _ := by simp [doCommit, minDur]
  env _ := by simp [doCommit]

theorem doDispatch_acts : ActsOnSeqRegs 1 doDispatch where
  regs s t h := by simp_all [doDispatch, enterAction, sameSeqRegs]
  next s t h := by simp_all [doDispatch, enterAction, sameSeqRegs]
  clock _ := by simp [doDispatch, enterAction]
  hold _ := by simp [doDispatch, enterAction, minDur]
  env _ := by simp [doDispatch, enterAction]

theorem doLoop_acts : ActsOnSeqRegs 1 doLoop where
  regs s t h := by simp_all [doLoop, sameSeqRegs]
  next _ _ _ := by simp [doLoop]
  clock _ := by simp [doLoop]
  hold _ := by simp [doLoop, minDur]
  env _ := by simp [doLoop]

theorem doWait5ms_acts : ActsOnSeqRegs wait5Ticks doWait5ms where
  regs s t h := by simp_all [doWait5ms, sameSeqRegs]
  next _ _ _ := by simp [doWait5ms]
  clock _ := by simp [doWait5ms]
  hold _ := by simp [doWait5ms]
  env _ := by simp [doWait5ms]

theorem doWait1ms_acts (l : Label) : ActsOnSeqRegs wait1Ticks (doWait1ms l) where
  regs s t h := by simp_all [doWait1ms, sameSeqRegs]
  next _ _ _ := by simp [doWait1ms]
  clock _ := by simp [doWait1ms]
  hold _ := by simp [doWait1ms]
  env _ := by simp [doWait1ms]

theorem doSetMo_acts (l : Label) : ActsOnSeqRegs 1 (doSetMo l) where
  regs s t h := by simp_all [doSetMo, sameSeqRegs]
  next _ _ _ := by simp [doSetMo]
  clock _ := by simp [doSetMo]
  hold _ := by simp [doSetMo, minDur]
  env _ := by simp [doSetMo]

theorem doSetOn_acts (l : Label) : ActsOnSeqRegs 1 (doSetOn l) where
  regs s t h := by simp_all [doSetOn, sameSeqRegs]
  next _ _ _ := by simp [doSetOn]
  clock _ := by simp [doSetOn]
  hold _ := by simp [doSetOn, minDur]
  env _ := by simp [doSetOn]

theorem doClrOn_acts (l : Label) : ActsOnSeqRegs 1 (doClrOn l) where
  regs s t h := by simp_all [doClrOn, sameSeqRegs]
  next _ _ _ := by simp [doClrOn]
  clock _ := by simp [doClrOn]
  hold _ := by simp [doClrOn, minDur]
  env _ := by simp [doClrOn]

theorem doClrMo_acts (l : Label) : ActsOnSeqRegs 1 (doClrMo l) where
  regs s t h := by simp_all [doClrMo, sameSeqRegs]
  next _ _ _ := by simp [doClrMo]
  clock _ := by simp [doClrMo]
  hold _ := by simp [doClrMo, minDur]
  env _ := by simp [doClrMo]

theorem doClrGate_acts (l : Label) : ActsOnSeqRegs 1 (doClrGate l) where
  regs s t h := by simp_all [doClrGate, sameSeqRegs]
  next _ _ _ := by simp [doClrGate]
  clock _ := by simp [doClrGate]
  hold _ := by simp [doClrGate, minDur]
  env _ := by simp [doClrGate]

theorem doSetLed_acts : ActsOnSeqRegs 1 doSetLed where
  regs s t h := by simp_all [doSetLed, sameSeqRegs]
  next _ _ _ := by simp [doSetLed]
  clock _ := by simp [doSetLed]
  hold _ := by simp [doSetLed, minDur]
  env _ := by simp [doSetLed]

theorem doClrLed_acts (l : Label) : ActsOnSeqRegs 1 (doClrLed l) where
  regs s t h := by simp_all [doClrLed, sameSeqRegs]
  next _ _ _ := by simp [doClrLed]
  clock _ := by simp [doClrLed]
  hold _ := by simp [doClrLed, minDur]
  env _ := by simp [doClrLed]

theorem doLoadPower_acts (l : Label) : ActsOnSeqRegs 1 (doLoadPower l) where
  regs s t h := by simp_all [doLoadPower, sameSeqRegs]
  next _ _ _ := by simp [doLoadPower]
  clock _ := by simp [doLoadPower]
  hold _ := by simp [doLoadPower, minDur]
  env _ := by simp [doLoadPower]

theorem doDispPower_acts (l : Label) : ActsOnSeqRegs 1 (doDispPower l) where
  regs s t h := by simp_all [doDispPower, sameSeqRegs]
  next _ _ _ := by simp [doDispPower]
  clock _ := by simp [doDispPower]
  hold _ := by simp [doDispPower, minDur]
  env _ := by simp [doDispPower]

theorem doLoadRate_acts : ActsOnSeqRegs 1 doLoadRate where
  regs s t h := by simp_all [doLoadRate, sameSeqRegs]
  next _ _ _ := by simp [doLoadRate]
  clock _ := by simp [doLoadRate]
  hold _ := by simp [doLoadRate, minDur]
  env _ := by simp [doLoadRate]

theorem doDispRate_acts : ActsOnSeqRegs 1 doDispRate where
  regs s t h := by simp_all [doDispRate, sameSeqRegs]
  next _ _ _ := by simp [doDispRate]
  clock _ := by simp [doDispRate]
  hold _ := by simp [doDispRate, minDur]
  env _ := by simp [doDispRate]

theorem doFlashStart_acts : ActsOnSeqRegs 1 doFlashStart where
  regs s t h := by
    have ha : t.aflRun = s.aflRun := h.2.2.2.1
    by_cases hr : s.aflRun = 0#1 <;> simp_all [doFlashStart, startFlasher, sameSeqRegs]
  next _ _ _ := rfl
  clock s := by by_cases hr : s.aflRun = 0#1 <;> simp [doFlashStart, startFlasher, hr]
  hold _ := rfl
  env s := by by_cases hr : s.aflRun = 0#1 <;> simp [doFlashStart, startFlasher, hr]

theorem doClrDisplay_acts : ActsOnSeqRegs 1 doClrDisplay where
  regs s t h := by simp_all [doClrDisplay, sameSeqRegs]
  next _ _ _ := by simp [doClrDisplay]
  clock _ := by simp [doClrDisplay]
  hold _ := by simp [doClrDisplay, minDur]
  env _ := by simp [doClrDisplay]

theorem doAlarmLabel_acts (v : BitVec 3) : ActsOnSeqRegs 1 (doAlarmLabel (some v)) where
  regs s t h := by simp_all [doAlarmLabel, writeAlarmLabel, sameSeqRegs]
  next _ _ _ := by simp [doAlarmLabel]
  clock _ := by simp [doAlarmLabel, writeAlarmLabel]
  hold _ := by simp [doAlarmLabel, minDur]
  env _ := by simp [doAlarmLabel, writeAlarmLabel]

end Sys2Proof.Machine
end

