-- ==== Sys2Proof/Laws/PerInstr.lean ====
section
/-! SUPPORT. Statements about every operation as syntax, one lemma per constructor. -/

namespace Sys2Proof.Laws

/-- The format that the opcode table gives the operation's row, by its number in the model's operation word (log 4). -/
def EncodeFormat.rowFormat : Instr → Nat
  | .runOn | .runIdle | .runOffSetRate | .runAlarmTemp | .runAlarmReflection | .runAlarmMo
  | .runAlarmReserved _ => 0
  | .candAlarmTemp _ | .candAlarmReflection _ | .candAlarmMo _ | .candOn _ | .candOffSetRate | .candIdle => 1
  | .sample | .decide | .setMo _ | .setOn _ | .clrOn _ | .clrMo _ | .clrGate _ | .setLed | .clrLed _ | .wait5ms
  | .wait1ms _ | .commit | .dispatch | .loop | .loadPower _ | .dispPower _ | .loadRate | .dispRate
  | .flashStart | .clrDisplay | .setAlarmState => 2
  | .nextMode | .startupSeq | .shutdownSeq _ | .powerEncode _ | .rateEncode | .alarmAction | .controlCycle => 3
  | .pulseTick | .flashTick | .advance | .reset => 4

/-- The format byte of the operation's word is the number of its row's format. -/
def EncodeFormat.Statement (i : Instr) : Prop := (encode i).toNat / 256 = EncodeFormat.rowFormat i

theorem EncodeFormat.runOn : EncodeFormat.Statement .runOn := rfl
theorem EncodeFormat.runIdle : EncodeFormat.Statement .runIdle := rfl
theorem EncodeFormat.runOffSetRate : EncodeFormat.Statement .runOffSetRate := rfl
theorem EncodeFormat.runAlarmTemp : EncodeFormat.Statement .runAlarmTemp := rfl
theorem EncodeFormat.runAlarmReflection : EncodeFormat.Statement .runAlarmReflection := rfl
theorem EncodeFormat.runAlarmMo : EncodeFormat.Statement .runAlarmMo := rfl
theorem EncodeFormat.runAlarmReserved (x : Level) : EncodeFormat.Statement (.runAlarmReserved x) := by
  revert x; unfold EncodeFormat.Statement; decide
theorem EncodeFormat.candAlarmTemp (sw : BitVec 2) : EncodeFormat.Statement (.candAlarmTemp sw) := by
  revert sw; unfold EncodeFormat.Statement; decide
theorem EncodeFormat.candAlarmReflection (sw : BitVec 2) : EncodeFormat.Statement (.candAlarmReflection sw) := by
  revert sw; unfold EncodeFormat.Statement; decide
theorem EncodeFormat.candAlarmMo (sw : BitVec 2) : EncodeFormat.Statement (.candAlarmMo sw) := by
  revert sw; unfold EncodeFormat.Statement; decide
theorem EncodeFormat.candOn (sw2 : Level) : EncodeFormat.Statement (.candOn sw2) := by
  revert sw2; unfold EncodeFormat.Statement; decide
theorem EncodeFormat.candOffSetRate : EncodeFormat.Statement .candOffSetRate := rfl
theorem EncodeFormat.candIdle : EncodeFormat.Statement .candIdle := rfl
theorem EncodeFormat.sample : EncodeFormat.Statement .sample := rfl
theorem EncodeFormat.decide : EncodeFormat.Statement .decide := rfl
theorem EncodeFormat.setMo (l : Label) : EncodeFormat.Statement (.setMo l) := by
  cases l <;> rfl
theorem EncodeFormat.setOn (l : Label) : EncodeFormat.Statement (.setOn l) := by
  cases l <;> rfl
theorem EncodeFormat.clrOn (l : Label) : EncodeFormat.Statement (.clrOn l) := by
  cases l <;> rfl
theorem EncodeFormat.clrMo (l : Label) : EncodeFormat.Statement (.clrMo l) := by
  cases l <;> rfl
theorem EncodeFormat.clrGate (l : Label) : EncodeFormat.Statement (.clrGate l) := by
  cases l <;> rfl
theorem EncodeFormat.setLed : EncodeFormat.Statement .setLed := rfl
theorem EncodeFormat.clrLed (l : Label) : EncodeFormat.Statement (.clrLed l) := by
  cases l <;> rfl
theorem EncodeFormat.wait5ms : EncodeFormat.Statement .wait5ms := rfl
theorem EncodeFormat.wait1ms (l : Label) : EncodeFormat.Statement (.wait1ms l) := by
  cases l <;> rfl
theorem EncodeFormat.commit : EncodeFormat.Statement .commit := rfl
theorem EncodeFormat.dispatch : EncodeFormat.Statement .dispatch := rfl
theorem EncodeFormat.loop : EncodeFormat.Statement .loop := rfl
theorem EncodeFormat.loadPower (l : Label) : EncodeFormat.Statement (.loadPower l) := by
  cases l <;> rfl
theorem EncodeFormat.dispPower (l : Label) : EncodeFormat.Statement (.dispPower l) := by
  cases l <;> rfl
theorem EncodeFormat.loadRate : EncodeFormat.Statement .loadRate := rfl
theorem EncodeFormat.dispRate : EncodeFormat.Statement .dispRate := rfl
theorem EncodeFormat.flashStart : EncodeFormat.Statement .flashStart := rfl
theorem EncodeFormat.clrDisplay : EncodeFormat.Statement .clrDisplay := rfl
theorem EncodeFormat.setAlarmState : EncodeFormat.Statement .setAlarmState := rfl
theorem EncodeFormat.nextMode : EncodeFormat.Statement .nextMode := rfl
theorem EncodeFormat.startupSeq : EncodeFormat.Statement .startupSeq := rfl
theorem EncodeFormat.shutdownSeq (l : Label) : EncodeFormat.Statement (.shutdownSeq l) := by
  cases l <;> rfl
theorem EncodeFormat.powerEncode (l : Label) : EncodeFormat.Statement (.powerEncode l) := by
  cases l <;> rfl
theorem EncodeFormat.rateEncode : EncodeFormat.Statement .rateEncode := rfl
theorem EncodeFormat.alarmAction : EncodeFormat.Statement .alarmAction := rfl
theorem EncodeFormat.controlCycle : EncodeFormat.Statement .controlCycle := rfl
theorem EncodeFormat.pulseTick : EncodeFormat.Statement .pulseTick := rfl
theorem EncodeFormat.flashTick : EncodeFormat.Statement .flashTick := rfl
theorem EncodeFormat.advance : EncodeFormat.Statement .advance := rfl
theorem EncodeFormat.reset : EncodeFormat.Statement .reset := rfl

end Sys2Proof.Laws
end

