-- ==== Sys2Proof/Laws/Step.lean ====
section
/-! SUPPORT. What a step can do, said once: the inversion of `step` for runs of steps. -/

namespace Sys2Proof.Machine

/-- The model's own bookkeeping plays no part in what is enabled. -/
@[simp] theorem enabled_bookkeeping (a : Act) (s : State) (ag : List Directive) (d p : Nat) :
    enabled a { s with agenda := ag, draws := d, patience := p } = enabled a s := by
  cases a <;> rfl

@[simp] theorem waiting_bookkeeping (s : State) (ag : List Directive) (d p : Nat) :
    waiting { s with agenda := ag, draws := d, patience := p } = waiting s := rfl

/-- The waiting step is enabled. -/
theorem enabled_waiting (s : State) : enabled (waiting s) s = true := by
  unfold waiting
  split
  · rfl
  · rename_i h1
    split
    · rename_i h2; simp [enabled, h1, h2]
    · rename_i h2
      split
      · rename_i h3; simp [enabled, h1, h3]
      · rename_i h3; simp [enabled, h1, timerDue, h2, h3]

/-- The step freely chosen is enabled. -/
theorem enabled_freeAct (s : State) : enabled (freeAct s) s = true := by
  unfold freeAct
  split
  · rename_i h; exact (Bool.and_eq_true_iff.mp h).1
  · split
    · assumption
    · exact enabled_waiting s

/-- A free step is an enabled act, taken with one more free value drawn. -/
theorem stepFree_cases (s : State) :
    ∃ a p, enabled a s = true ∧ stepFree s = perform a { s with draws := s.draws + 1, patience := p } :=
  ⟨_, _, enabled_freeAct s, rfl⟩

/-- With an act asked for, a step is an enabled act: that one, the waiting step, or, while a FLASH_TICK waits for a flasher
that is off, a free step. -/
theorem stepAct_cases (b : Act) (rest : List Directive) (s : State) :
    ∃ a ag d p, enabled a s = true ∧
      stepAct b rest s = perform a { s with agenda := ag, draws := d, patience := p } ∧ (ag = rest ∨ ag = s.agenda) := by
  by_cases h : enabled b s = true
  · exact ⟨b, rest, s.draws, s.patience, h, if_pos h, .inl rfl⟩
  · by_cases k : b = .flashTick ∧ s.aflRun = 0#1
    · obtain ⟨a, p, ha, e⟩ := stepFree_cases s
      exact ⟨a, s.agenda, s.draws + 1, p, ha, ((if_neg h).trans (if_pos k)).trans e, .inr rfl⟩
    · exact ⟨waiting s, s.agenda, s.draws, s.patience, enabled_waiting s, (if_neg h).trans (if_neg k), .inr rfl⟩

/-- A step of a run is one of the acts, enabled in the state it is taken in; the agenda, the count of draws and the patience
are the model's own and are all that differs between `s` and the state the act is performed in. -/
theorem step_cases {s t : State} (ho : onlyActs s = true) (h : step s = .next t) :
    ∃ (a : Act) (ag : List Directive) (d p : Nat),
      enabled a s = true ∧ perform a { s with agenda := ag, draws := d, patience := p } = .next t ∧
      onlyActs { s with agenda := ag, draws := d, patience := p } = true := by
  cases hag : s.agenda with
  | nil =>
    obtain ⟨a, p, ha, e⟩ := stepFree_cases s
    simp only [step, hag] at h
    exact ⟨a, s.agenda, s.draws + 1, p, ha, e ▸ h, by simp [onlyActs, hag]⟩
  | cons d rest =>
    cases d with
    | act b =>
      obtain ⟨a, ag, d, p, ha, e, hcase⟩ := stepAct_cases b rest s
      simp only [step, hag] at h
      refine ⟨a, ag, d, p, ha, e ▸ h, ?_⟩
      rcases hcase with rfl | rfl
      · simpa [onlyActs, hag] using ho
      · simpa [onlyActs] using ho
    | word w => simp [onlyActs, hag] at ho

/-- While RST is high SEQ is not enabled. -/
theorem seq_not_enabled {s : State} (h : s.inp.rst = 1#1) : enabled .seq s = false := by
  simp [enabled, resetHeld, h]

/-- A free step that passes over an enabled SEQ leaves it one step fewer to wait (20_memory.md R69; log 22). -/
theorem freePatience_lt {s : State} (h : enabled .seq s = true) (k : freeAct s ≠ .seq) :
    freePatience s + 1 = s.patience := by
  have hp : s.patience ≠ 0 := fun e => k (by simp [freeAct, h, e])
  simp only [freePatience, if_neg k, h, if_true]
  omega

/-- The registers and the clock are as RESET leaves them exactly when RESET changes nothing. -/
theorem atReset_iff (s : State) : atReset s = true ↔ doReset s = s := by
  rw [atReset, beq_iff_eq]
  constructor
  · intro h
    cases s
    simp only [State.mk.injEq] at h
    simp [doReset, h]
  · intro h
    have e : ∀ u : State, u = s → { u with agenda := [], draws := 0, env := [], patience := 0 } =
        { s with agenda := [], draws := 0, env := [], patience := 0 } := by rintro u rfl; rfl
    exact (e _ h).symm

@[simp] theorem atReset_doReset (s : State) : atReset (doReset s) = true := (atReset_iff _).mpr rfl

/-- A step of a run that is taken while RST is high leaves every register and the clock as RESET does
(70_reset_and_hazards.md R200). -/
theorem step_resetHeld {s t : State} (ho : onlyActs s = true) (hr : s.inp.rst = 1#1) (h : step s = .next t) :
    atReset t = true := by
  obtain ⟨a, ag, d, p, ha, e, -⟩ := step_cases ho h
  have hh : resetHeld s = true := by simp [resetHeld, hr]
  cases a with
  | seq => simp [enabled, hh] at ha
  | pulseTick => simp [enabled, hh] at ha
  | flashTick => simp [enabled, hh] at ha
  | advance => simp [enabled, hh] at ha
  | reset =>
    simp only [perform, exec, execReset, Host.Outcome.next.injEq] at e
    exact (atReset_iff t).mpr (e ▸ rfl)
  | input c =>
    have hs : doReset s = s := (atReset_iff s).mp (by simpa [enabled, hh] using ha)
    simp only [perform, Host.Outcome.next.injEq] at e
    rw [atReset_iff, ← e]
    exact congrArg
      (fun u : State => { u with inp := changeInputs c s.inp, agenda := ag, draws := d, patience := p }) hs

/-- A run begins with its first step. -/
theorem core_run_succ (M : Host.Core) (k : Nat) {s t : M.State} (h : M.step s = .next t) : M.run (k + 1) s = M.run k t := by
  simp only [Host.Core.run, h]

theorem run_succ {s t : State} (h : step s = .next t) (k : Nat) : core.run (k + 1) s = core.run k t :=
  core_run_succ core k h

end Sys2Proof.Machine
end

