-- ==== Sys2Proof/Tests/Slice0.lean ====
section
/-! SUPPORT. Named tests: the checks of WellFormed, words written out from the encoding tables, single operations against the
vectors of 95_test_vectors.md, and a witness for every statement that has hypotheses. -/

open Sys2Proof Sys2Proof.Machine

namespace Sys2Proof.Tests

/-! ## WellFormed refuses a label at which the operation does not stand (R90) -/

theorem test_wf_setMo : (Instr.setMo .sSetOn).wellFormed = false := by decide
theorem test_wf_setOn : (Instr.setOn .sSetMo).wellFormed = false := by decide
theorem test_wf_clrOn : (Instr.clrOn .iClrMo).wellFormed = false := by decide
theorem test_wf_clrMo : (Instr.clrMo .aClrOn).wellFormed = false := by decide
theorem test_wf_clrGate : (Instr.clrGate .nSetMo).wellFormed = false := by decide
theorem test_wf_clrLed : (Instr.clrLed .nSetLed).wellFormed = false := by decide
theorem test_wf_wait1ms : (Instr.wait1ms .sWait).wellFormed = false := by decide
theorem test_wf_loadPower : (Instr.loadPower .fLoadRate).wellFormed = false := by decide
theorem test_wf_dispPower : (Instr.dispPower .fDispRate).wellFormed = false := by decide
theorem test_wf_shutdownSeq : (Instr.shutdownSeq .iClrOn).wellFormed = false := by decide
theorem test_wf_powerEncode : (Instr.powerEncode .iDispPower).wellFormed = false := by decide

/-! ## Words -/

/-- The `mode` patterns of R71. -/
theorem test_decode_mode3 :
    decodeWord 0b0000000000000000#16 = .ok .runOn ∧
    decodeWord 0b0000000000000001#16 = .ok .runIdle ∧
    decodeWord 0b0000000000000010#16 = .ok .runOffSetRate ∧
    decodeWord 0b0000000000000011#16 = .ok .runAlarmTemp ∧
    decodeWord 0b0000000000000100#16 = .ok .runAlarmReflection ∧
    decodeWord 0b0000000000000101#16 = .ok .runAlarmMo ∧
    decodeWord 0b0000000000000110#16 = .ok (.runAlarmReserved 0#1) ∧
    decodeWord 0b0000000000000111#16 = .ok (.runAlarmReserved 1#1) := by decide

/-- The `samp` patterns of R74. -/
theorem test_decode_in4 :
    decodeWord 0b0000000100000000#16 = .ok (.candAlarmTemp 0b00#2) ∧
    decodeWord 0b0000000100001100#16 = .ok (.candAlarmTemp 0b11#2) ∧
    decodeWord 0b0000000100000101#16 = .ok (.candAlarmReflection 0b01#2) ∧
    decodeWord 0b0000000100001011#16 = .ok (.candAlarmMo 0b10#2) ∧
    decodeWord 0b0000000100000010#16 = .ok (.candOn 0#1) ∧
    decodeWord 0b0000000100001010#16 = .ok (.candOn 1#1) ∧
    decodeWord 0b0000000100000110#16 = .ok .candOffSetRate ∧
    decodeWord 0b0000000100001110#16 = .ok .candIdle ∧
    decodeWord 0b0000000100001111#16 = .ok (.candAlarmMo 0b11#2) := by decide

/-- The labels in the order of the listing of R90 (log 4): the common ones, the startup sequence and the ON action. -/
theorem test_decode_uop_common :
    decodeWord 0b0000001000000000#16 = .ok .sample ∧
    decodeWord 0b0000001000000001#16 = .ok .decide ∧
    decodeWord 0b0000001000000010#16 = .ok (.setMo .sSetMo) ∧
    decodeWord 0b0000001000000011#16 = .ok .wait5ms ∧
    decodeWord 0b0000001000000100#16 = .ok (.setOn .sSetOn) ∧
    decodeWord 0b0000001000000101#16 = .ok .commit ∧
    decodeWord 0b0000001000000110#16 = .ok .dispatch ∧
    decodeWord 0b0000001000000111#16 = .ok (.setMo .nSetMo) ∧
    decodeWord 0b0000001000001000#16 = .ok (.setOn .nSetOn) ∧
    decodeWord 0b0000001000001001#16 = .ok (.loadPower .nLoadPower) ∧
    decodeWord 0b0000001000001010#16 = .ok (.dispPower .nDispPower) ∧
    decodeWord 0b0000001000001011#16 = .ok .setLed := by decide

/-- The labels of the IDLE and OFF_SET_RATE actions. -/
theorem test_decode_uop_off :
    decodeWord 0b0000001000001100#16 = .ok (.clrGate .iClrGate) ∧
    decodeWord 0b0000001000001101#16 = .ok (.clrOn .iClrOn) ∧
    decodeWord 0b0000001000001110#16 = .ok (.wait1ms .iWait) ∧
    decodeWord 0b0000001000001111#16 = .ok (.clrMo .iClrMo) ∧
    decodeWord 0b0000001000010000#16 = .ok (.loadPower .iLoadPower) ∧
    decodeWord 0b0000001000010001#16 = .ok (.dispPower .iDispPower) ∧
    decodeWord 0b0000001000010010#16 = .ok (.clrLed .iClrLed) ∧
    decodeWord 0b0000001000010011#16 = .ok (.clrGate .fClrGate) ∧
    decodeWord 0b0000001000010100#16 = .ok (.clrOn .fClrOn) ∧
    decodeWord 0b0000001000010101#16 = .ok (.wait1ms .fWait) ∧
    decodeWord 0b0000001000010110#16 = .ok (.clrMo .fClrMo) ∧
    decodeWord 0b0000001000010111#16 = .ok .loadRate ∧
    decodeWord 0b0000001000011000#16 = .ok .dispRate ∧
    decodeWord 0b0000001000011001#16 = .ok (.clrLed .fClrLed) := by decide

/-- The labels of the alarm action, and LOOP. -/
theorem test_decode_uop_alarm :
    decodeWord 0b0000001000011010#16 = .ok .flashStart ∧
    decodeWord 0b0000001000011011#16 = .ok .clrDisplay ∧
    decodeWord 0b0000001000011100#16 = .ok (.clrGate .aClrGate) ∧
    decodeWord 0b0000001000011101#16 = .ok (.clrOn .aClrOn) ∧
    decodeWord 0b0000001000011110#16 = .ok (.wait1ms .aWait) ∧
    decodeWord 0b0000001000011111#16 = .ok (.clrMo .aClrMo) ∧
    decodeWord 0b0000001000100000#16 = .ok .setAlarmState ∧
    decodeWord 0b0000001000100001#16 = .ok .loop := by decide

/-- The composites (R82, log 4). -/
theorem test_decode_composite :
    decodeWord 0b0000001100000000#16 = .ok .nextMode ∧
    decodeWord 0b0000001100000001#16 = .ok .startupSeq ∧
    decodeWord 0b0000001100000010#16 = .ok (.shutdownSeq .iClrGate) ∧
    decodeWord 0b0000001100000011#16 = .ok (.shutdownSeq .fClrGate) ∧
    decodeWord 0b0000001100000100#16 = .ok (.shutdownSeq .aClrGate) ∧
    decodeWord 0b0000001100000101#16 = .ok (.powerEncode .nLoadPower) ∧
    decodeWord 0b0000001100000110#16 = .ok (.powerEncode .iLoadPower) ∧
    decodeWord 0b0000001100000111#16 = .ok .rateEncode ∧
    decodeWord 0b0000001100001000#16 = .ok .alarmAction ∧
    decodeWord 0b0000001100001001#16 = .ok .controlCycle := by decide

/-- The events (R84, log 4). -/
theorem test_decode_event :
    decodeWord 0b0000010000000000#16 = .ok .pulseTick ∧
    decodeWord 0b0000010000000001#16 = .ok .flashTick ∧
    decodeWord 0b0000010000000010#16 = .ok .advance ∧
    decodeWord 0b0000010000000011#16 = .ok .reset := by decide

/-- What names no operation is refused by name. -/
theorem test_decode_refused :
    decodeWord 0b0000000000010000#16 = .error .notMode3 ∧
    decodeWord 0b0000000100010000#16 = .error .notIn4 ∧
    decodeWord 0b0000001000100010#16 = .error .notLabel ∧
    decodeWord 0b0000001100001010#16 = .error .notComposite ∧
    decodeWord 0b0000010000000100#16 = .error .notEvent ∧
    decodeWord 0b0000010100000000#16 = .error .unknownFormat ∧
    decode [0x03#8] = .error .truncated ∧ decode [] = .error .truncated := by decide

/-- Rows of the opcode table as it numbers their bits: `mode` 011, `samp` 1110; a row without bits gives nothing. -/
theorem test_decode_table :
    decodeTableWord 8 0x3 = some .runAlarmTemp ∧ decodeTableWord 8 0xE = some .candIdle ∧
    decodeTableWord 0 0 = none := by decide

/-! ## Single operations -/

/-- The reset state at the reference parameters (95_test_vectors.md, conventions), with no alarm, switch 1 asserted and the
dial at 0xA5. -/
def base : State :=
  { powerLevel := 0x00#8, rateR := 0#8, seqPc := .cSample, gate := 0#1, aflRun := 0#1, mode := 7#3, alarmState := 0#3
    led := 0#1, pN := 0xFF#8, moEnN := 1#1, onEnN := 1#1, pulse := 0#1, guideN := 0#1, laserEn := 0#1
    displayCode := 0#12, samp := 0#4, ppgCnt := 2000, aflCnt := 0, seqHold := 0
    inp := { alarmLsb := 0#1, alarmMsb := 1#1, sw1N := 0#1, sw2N := 1#1, dial := 0xA5#8, trigInN := 1#1, rst := 0#1 }
    now := 0, cand := 3#3, agenda := [], draws := 0, env := [], patience := 3 }

/-- What `f` reads after the operation, if it answers a next state. -/
def after {α : Type} (i : Instr) (s : State) (f : State → α) : Option α :=
  match exec i s with
  | .next t => some (f t)
  | .fault _ => none
  | .refused _ => none

/-- The same after one step. -/
def afterStep {α : Type} (s : State) (f : State → α) : Option α :=
  match step s with
  | .next t => some (f t)
  | .fault _ => none
  | .refused _ => none

/-- `base` asked to take the steps `as`. -/
def asked (as : List Act) : State := { base with agenda := as.map .act }

/-- V3: `cand` for all 16 values of `samp`, in order. -/
theorem test_candidate :
    (List.range 16).map (fun v => (candidate (BitVec.ofNat 4 v)).toNat) =
      [3, 4, 0, 5, 3, 4, 2, 5, 3, 4, 0, 5, 3, 4, 1, 5] := by decide

/-- V3: one value of `samp` for each IN4 row. -/
theorem test_candidate_rows :
    after (decodeIn4 0b1000#4) base State.cand = some 3#3 ∧ after (decodeIn4 0b1101#4) base State.cand = some 4#3 ∧
    after (decodeIn4 0b0111#4) base State.cand = some 5#3 ∧ after (decodeIn4 0b0010#4) base State.cand = some 0#3 ∧
    after (decodeIn4 0b0110#4) base State.cand = some 2#3 ∧ after (decodeIn4 0b1110#4) base State.cand = some 1#3 :=
  ⟨rfl, rfl, rfl, rfl, rfl, rfl⟩

/-- R91, example: LSB 0, MSB 1, switch 1 low, switch 2 high give 1010. -/
theorem test_sample : after .sample base State.samp = some 0b1010#4 := rfl

/-- V4: of the eight previous modes, IDLE and OFF_SET_RATE start the sequence when the candidate is ON. -/
theorem test_startSeq : (List.range 8).filter (fun m => startSeq 0#3 (BitVec.ofNat 3 m)) = [1, 2] := by decide

theorem test_decide :
    after .decide { base with samp := 0b1010#4, mode := 1#3 } State.seqPc = some .sSetMo ∧
    after .decide { base with samp := 0b1010#4, mode := 7#3 } State.seqPc = some .cCommit := ⟨rfl, rfl⟩

/-- V5: `samp` 1011 over mode 0 gives 5, and 1110 over mode 5 gives 1. -/
theorem test_commit :
    after .commit { base with samp := 0b1011#4, mode := 0#3 } State.mode = some 5#3 ∧
    after .commit { base with samp := 0b1110#4, mode := 5#3 } State.mode = some 1#3 := ⟨rfl, rfl⟩

/-- V5: the successor of DISPATCH for the eight modes. -/
theorem test_dispatch :
    (List.range 8).map (fun m => after .dispatch { base with mode := BitVec.ofNat 3 m } State.seqPc) =
      [some .nSetMo, some .iClrGate, some .fClrGate, some .aFlashStart, some .aFlashStart, some .aFlashStart,
        some .aFlashStart, some .aFlashStart] := by decide

/-- R90: LOOP leads to SAMPLE; the waits lead to the acts after them. -/
theorem test_loop_and_waits :
    after .loop base (fun t => (t.seqPc, t.seqHold)) = some (.cSample, 1) ∧
    after .wait5ms base State.seqPc = some .sSetOn ∧ after (.wait1ms .fWait) base State.seqPc = some .fClrMo :=
  ⟨rfl, rfl, rfl⟩

/-- V9: the enables, each from the opposite level. -/
theorem test_enables :
    after (.setMo .nSetMo) base State.moEnN = some 0#1 ∧ after (.setOn .nSetOn) base State.onEnN = some 0#1 ∧
    after (.clrOn .aClrOn) { base with onEnN := 0#1 } State.onEnN = some 1#1 ∧
    after (.clrMo .iClrMo) { base with moEnN := 0#1 } State.moEnN = some 1#1 := ⟨rfl, rfl, rfl, rfl⟩

/-- V9: gate, LED and display; `laser_en` is not touched by CLR_GATE. -/
theorem test_clears :
    after (.clrGate .fClrGate) { base with gate := 1#1, laserEn := 1#1 } (fun t => (t.gate, t.laserEn)) =
      some (0#1, 1#1) ∧
    after .setLed base State.led = some 1#1 ∧ after (.clrLed .iClrLed) { base with led := 1#1 } State.led = some 0#1 ∧
    after .clrDisplay { base with displayCode := 650#12 } State.displayCode = some 0#12 := ⟨rfl, rfl, rfl, rfl⟩

/-- V6: `DIAL` 0xA5 gives `power_level` 0xA5 and `p_n` 0x5A. -/
theorem test_loadPower :
    after (.loadPower .nLoadPower) base (fun t => (t.powerLevel, t.pN)) = some (0xA5#8, 0x5A#8) := by decide

/-- V6: `display_code` of the level 128 at DM 1, 4096/3300 and 1/2. -/
theorem test_dispPower :
    dispWith .saturate ⟨1, 1⟩ (pwrMv 128#8) = 151#12 ∧ dispWith .saturate ⟨4096, 3300⟩ (pwrMv 128#8) = 187#12 ∧
    dispWith .saturate ⟨1, 2⟩ (pwrMv 128#8) = 75#12 := by decide

/-- R131: the reading is stored and the toggle state is kept. -/
theorem test_loadRate :
    after .loadRate { base with pulse := 1#1 } (fun t => (t.rateR, t.pulse, t.laserEn)) = some (0xA5#8, 1#1, 0#1) := rfl

/-- V7: `HALF_TICKS` at 100 MHz, 16 MHz and 1 MHz, and the waits at 72 MHz. -/
theorem test_halfTicks :
    halfTicksAt 100000000 0#8 = 2000 ∧ halfTicksAt 100000000 127#8 = 1113 ∧ halfTicksAt 100000000 255#8 = 769 ∧
    halfTicksAt 16000000 128#8 = 177 ∧ halfTicksAt 1000000 255#8 = 8 ∧ wait5TicksAt 72000000 = 360000 ∧
    wait1TicksAt 72000000 = 72000 := by decide

/-- V7: `display_code` of the readings 0 and 200 at DM 1 and 4096/3300. -/
theorem test_dispRate :
    dispWith .wrap ⟨1, 1⟩ (rateDisp 0#8) = 250#12 ∧ dispWith .wrap ⟨4096, 3300⟩ (rateDisp 200#8) = 700#12 := by decide

/-- V8: a tie goes up; above 4095 the port saturates or wraps. -/
theorem test_disp_boundary :
    dispWith .saturate ⟨1, 4⟩ (rateDisp 0#8) = 63#12 ∧ dispWith .saturate ⟨7, 1⟩ (rateDisp 255#8) = 4095#12 ∧
    dispWith .wrap ⟨7, 1⟩ (rateDisp 255#8) = 454#12 ∧ bound12 .wrap 5000 = 904#12 ∧ bound12 .wrap 4095 = 4095#12 := by
  decide

/-- V12: a start sets the flag; a start while it runs leaves the counter alone. -/
theorem test_flashStart :
    after .flashStart base (fun t => (t.aflRun, t.led)) = some (1#1, 0#1) ∧
    after .flashStart { base with aflRun := 1#1, aflCnt := 99899994 } State.aflCnt = some 99899994 := ⟨rfl, rfl⟩

/-- V13: the labels of the modes 3 to 7. -/
theorem test_setAlarmState :
    (List.range 5).map (fun m => after .setAlarmState { base with mode := BitVec.ofNat 3 (m + 3) } State.alarmState) =
      [some 1#3, some 2#3, some 3#3, some 4#3, some 4#3] := by decide

/-- V11: the tick toggles and copies the gate. -/
theorem test_pulseTick :
    after .pulseTick { base with laserEn := 1#1 } (fun t => (t.pulse, t.laserEn)) = some (1#1, 0#1) ∧
    after .pulseTick { base with pulse := 1#1, gate := 1#1 } (fun t => (t.pulse, t.laserEn)) = some (0#1, 1#1) := by
  decide

/-- V12: the tick toggles the LED. -/
theorem test_flashTick :
    after .flashTick { base with aflRun := 1#1 } State.led = some 1#1 ∧
    after .flashTick { base with aflRun := 1#1, led := 1#1 } State.led = some 0#1 := by decide

/-- R59: one tick; `afl_cnt` is not counted while the flasher is off (V12); nothing passes while a timer is due. -/
theorem test_advance :
    after .advance { base with aflCnt := 9, seqHold := 3 } (fun t => (t.now, t.ppgCnt, t.aflCnt, t.seqHold)) =
      some (1, 1999, 9, 2) ∧
    after .advance { base with ppgCnt := 0 } State.now = some 0 := by decide

/-- R200, example: a reset in steady ON. -/
theorem test_reset :
    after .reset { base with moEnN := 0#1, onEnN := 0#1, pN := 0x7F#8, led := 1#1, mode := 0#3, now := 77 }
      (fun t => (t.moEnN, t.onEnN, t.pN, t.led, t.mode, t.now)) = some (1#1, 1#1, 0xFF#8, 0#1, 7#3, 0) := rfl

/-- V14: FLASH_TICK and SET_LED at one tick, in both orders, each as the agenda asks. -/
theorem test_race_led :
    (match core.run 2 { asked [.flashTick, .seq] with seqPc := .nSetLed, led := 1#1, aflRun := 1#1 } with
      | .next t => some t.led
      | .fault _ => none
      | .refused _ => none) = some 1#1 ∧
    (match core.run 2 { asked [.seq, .flashTick] with seqPc := .nSetLed, led := 1#1, aflRun := 1#1 } with
      | .next t => some t.led
      | .fault _ => none
      | .refused _ => none) = some 0#1 := ⟨rfl, rfl⟩

/-- V14: PULSE_TICK and CLR_GATE at one tick, in both orders. -/
theorem test_race_gate :
    (match core.run 2 { asked [.pulseTick, .seq] with seqPc := .iClrGate, gate := 1#1, laserEn := 1#1, ppgCnt := 0 } with
      | .next t => some (t.gate, t.laserEn)
      | .fault _ => none
      | .refused _ => none) = some (0#1, 1#1) ∧
    (match core.run 2 { asked [.seq, .pulseTick] with seqPc := .iClrGate, gate := 1#1, laserEn := 1#1, ppgCnt := 0 } with
      | .next t => some (t.gate, t.laserEn)
      | .fault _ => none
      | .refused _ => none) = some (0#1, 0#1) := ⟨rfl, rfl⟩

/-- R51: the LASER_EN pin. -/
theorem test_laserEnPin : laserEnPin true 1#1 = 0#1 ∧ laserEnPin false 1#1 = 1#1 := by decide

/-- R31: the counter widths at the reference clock. -/
theorem test_counterWidth :
    counterWidth 2000 = 11 ∧ counterWidth 100000000 = 27 ∧ counterWidth 500000 = 19 := by decide

/-- R200: while RST is high the step is RESET, whatever is asked. -/
theorem test_reset_held :
    afterStep { asked [.seq] with mode := 0#3, inp := { base.inp with rst := 1#1 } } State.mode = some 7#3 := rfl

/-- R200: after RST rises RESET comes first; then RST may be released. -/
theorem test_reset_release :
    let s := { base with now := 9, inp := { base.inp with rst := 1#1 } }
    enabled (.input { rst := some 0#1 }) s = false ∧ enabled (.input { rst := some 0#1 }) (doReset s) = true := by
  refine ⟨?_, by rw [enabled, atReset_doReset, Bool.or_true]⟩
  rw [enabled, Bool.or_eq_false_iff]
  refine ⟨rfl, Bool.eq_false_iff.mpr fun h => ?_⟩
  exact absurd (congrArg State.now ((atReset_iff _).mp h)) (by decide)

/-- R201: RST high shows the reset levels at once. -/
theorem test_reset_pins :
    (outputs { base with led := 1#1, onEnN := 0#1, inp := { base.inp with rst := 1#1 } }).onEnN = 1#1 ∧
    (outputs { base with led := 1#1, onEnN := 0#1 }).onEnN = 0#1 := ⟨rfl, rfl⟩

/-- R83 SET, R68: the ports named take their level, the others keep theirs. -/
theorem test_input :
    afterStep (asked [.input { alarmLsb := some 1#1, sw2N := some 0#1, dial := some 0x11#8 }]) State.inp =
      some { alarmLsb := 1#1, alarmMsb := 1#1, sw1N := 0#1, sw2N := 0#1, dial := 0x11#8, trigInN := 1#1, rst := 0#1 } :=
  rfl

/-- R55: a RESET between the micro-ops of a composite ends it, by ENV's move or by RST going high. -/
theorem test_reset_inside :
    after .runOn { base with mode := 0#3, env := [{ reset := true }] } (fun t => (t.mode, t.env)) = some (7#3, []) ∧
    after .runOn { base with mode := 0#3, env := [{ change := { rst := some 1#1 } }] }
      (fun t => (t.mode, t.inp.rst)) = some (7#3, 1#1) := ⟨rfl, rfl⟩

/-- R55: a dial turned before LOAD_POWER is the one it reads, however SEQ comes to it. -/
theorem test_change_inside (τ : Nat → Lag) :
    ∃ t, performAll τ [doLoadPower .nLoadPower] { base with env := [{ change := { dial := some 0x11#8 } }] } = .ok t ∧
      t.powerLevel = 0x11#8 := by
  refine ⟨_, rfl, ?_⟩
  have h := (comeTo_spec τ { base with inp := { base.inp with dial := 0x11#8 } }).1
  exact congrArg Inputs.dial h.2.2.2.2.2.2.2.2.2.2.2.2.1

/-- R69: when SEQ may be left waiting no longer, a free step is its micro-op. -/
theorem test_fair : afterStep { base with patience := 0 } State.seqPc = some .cDecide := rfl

/-- R83: the agenda entries of a script. -/
theorem test_script :
    scriptAgenda [.uop, .adv 2, .ptick] = [.act .seq, .act .advance, .act .advance, .act .pulseTick] := by decide

/-- The bits of a row placed for the next step run its operation: `samp` 1110 gives the candidate 1. -/
theorem test_fetch :
    afterStep (State.reset.withFetchWord 8 0xE) (fun t => (t.cand, t.samp)) = some (1#3, 0b1110#4) := rfl

/-! ## Witnesses: states and operands that meet the hypotheses of the statements, at boundary values -/

theorem witness_DecodeOfEncodeIsIdentity : (Instr.shutdownSeq .aClrGate).WellFormed ∧ Instr.controlCycle.WellFormed := by
  decide

theorem witness_DecodedWordsReencode :
    decodeWord 0x0221#16 = .ok .loop ∧ decodeWord 0x0008#16 = .ok (.candAlarmTemp 2#2) ∧
    decodeWord 0x000F#16 = .ok (.candAlarmMo 3#2) := by decide

theorem witness_StepRunsTheWord :
    let s := { base with agenda := [.word 0x0402#16, .act .seq] }
    s.agenda = .word 0x0402#16 :: [.act .seq] ∧ s.inp.rst = 0#1 ∧ decode (wordBytes 0x0402#16) = .ok (.advance, []) := by
  decide

theorem witness_StepRunsTheMicroOp :
    (asked [.seq]).agenda = .act .seq :: [] ∧ (asked [.seq]).inp.rst = 0#1 ∧ (asked [.seq]).seqHold = 0 := by decide

theorem witness_EnabledStepsAreTaken :
    base.inp.rst = 0#1 ∧ enabled .seq base = true ∧ enabled .advance { base with ppgCnt := 1 } = true ∧
    enabled .pulseTick { base with ppgCnt := 0 } = true ∧
    enabled .flashTick { base with aflRun := 1#1, aflCnt := 0 } = true := by decide

theorem witness_NoOperationFails : onlyActs base = true ∧ onlyActs (asked [.seq, .reset]) = true := by decide

theorem witness_TimersAreUrgentAndSeqIsFair :
    (let s := { asked [.advance] with ppgCnt := 0 }
     onlyActs s = true ∧ s.ppgCnt = 0 ∧ ∃ t, step s = .next t) ∧
    (let s := { asked [.advance] with aflRun := 1#1, aflCnt := 0 }
     onlyActs s = true ∧ (s.aflRun = 1#1 ∧ s.aflCnt = 0) ∧ ∃ t, step s = .next t) ∧
    base.agenda = [] ∧ base.seqHold = 0 :=
  ⟨⟨rfl, rfl, _, rfl⟩, ⟨rfl, ⟨rfl, rfl⟩, _, rfl⟩, rfl, rfl⟩

theorem witness_MinimumDurationsAreKept :
    (∃ t, exec (uopAt .sWait) base = .next t) ∧ (∃ t, exec .pulseTick base = .next t) ∧
    (∃ t, exec .flashTick base = .next t) ∧
    (let s := { asked [.seq] with seqHold := 1 }
     onlyActs s = true ∧ 0 < s.seqHold ∧ ∃ t, step s = .next t) :=
  ⟨⟨_, rfl⟩, ⟨_, rfl⟩, ⟨_, rfl⟩, ⟨rfl, by decide, _, rfl⟩⟩

theorem witness_LoadPowerWritesLevelAndPins :
    (Label.iLoadPower, Label.iDispPower) ∈ [(Label.nLoadPower, Label.nDispPower), (.iLoadPower, .iDispPower)] := by decide

theorem witness_SetAlarmStateWritesTheLabel :
    ((({ base with mode := 3#3 } : State).mode, 1#3) ∈ [(3#3, 1#3), (4#3, 2#3), (5#3, 3#3), (6#3, 4#3), (7#3, 4#3)]) ∧
    ((base.mode, 4#3) ∈ [(3#3, 1#3), (4#3, 2#3), (5#3, 3#3), (6#3, 4#3), (7#3, 4#3)]) ∧
    ({ base with mode := 2#3 } : State).mode.toNat < 3 := by decide

theorem witness_AdvancePassesOneTick :
    base.inp.rst = 0#1 ∧ (0 < ({ base with ppgCnt := 1 } : State).ppgCnt ∧ base.aflRun = 0#1) ∧
    (let s := { base with aflRun := 1#1, aflCnt := 1 }
     0 < s.ppgCnt ∧ 0 < s.aflCnt) := by decide

theorem witness_ResetSetsEveryRegister :
    let s := { base with inp := { base.inp with rst := 1#1 } }
    s.inp.rst = 1#1 ∧ enabled .reset s = true ∧
    ((doReset s).inp.rst = 1#1 ∧ enabled (.input {}) (doReset s) = true) ∧
    onlyActs { s with agenda := [.act .seq] } = true ∧ ∃ t, step { s with agenda := [.act .seq] } = .next t :=
  ⟨rfl, rfl, ⟨rfl, by rw [enabled, atReset_doReset, Bool.or_true]⟩, rfl, _, rfl⟩

/-- The hypothesis of the statements about a composite while ENV does nothing inside it. -/
theorem witness_composites_calm : base.env = [] := rfl

theorem witness_ShutdownSequenceSeparatesTheEnables :
    base.env = [] ∧
    (Label.aClrGate, Label.aSetAlarmState) ∈
      [(Label.iClrGate, Label.iLoadPower), (.fClrGate, .fLoadRate), (.aClrGate, .aSetAlarmState)] := by decide

theorem witness_PowerEncodeFollowsTheDial :
    base.env = [] ∧
    (Label.iLoadPower, Label.iClrLed) ∈ [(Label.nLoadPower, Label.nSetLed), (.iLoadPower, .iClrLed)] := by decide

theorem witness_AlarmActionShutsDownAndLabels :
    (base.mode, 4#3) ∈ [(3#3, 1#3), (4#3, 2#3), (5#3, 3#3), (6#3, 4#3), (7#3, 4#3)] ∧ base.env = [] := by decide

theorem witness_AlarmRowsRecordTheirLabel :
    (Instr.runAlarmReserved 1#1, 4#3) ∈ [(Instr.runAlarmTemp, 1#3), (.runAlarmReflection, 2#3), (.runAlarmMo, 3#3),
      (.runAlarmReserved 1#1, 4#3)] ∧ base.env = [] := by decide

/-- The two forms of NEXTMODE: the edge from IDLE to ON, and no edge. -/
theorem witness_NextModeFollowsTheInputs :
    0#3 = candidate (base.inp.sw2N ++ base.inp.sw1N ++ base.inp.alarmMsb ++ base.inp.alarmLsb) ∧
    ({ base with mode := 1#3 } : State).mode = 1#3 ∧ base.mode ≠ 1#3 ∧ base.env = [] := by decide

/-- An input for each candidate mode. -/
theorem witness_ControlCycleRunsTheActionOfTheNewMode :
    0#3 = candidate (base.inp.sw2N ++ base.inp.sw1N ++ base.inp.alarmMsb ++ base.inp.alarmLsb) ∧
    1#3 = candidate (1#1 ++ 1#1 ++ 1#1 ++ 0#1) ∧ 2#3 = candidate (0#1 ++ 1#1 ++ 1#1 ++ 0#1) ∧
    3#3 = candidate (0#1 ++ 0#1 ++ 0#1 ++ 0#1) ∧ 4#3 = candidate (1#1 ++ 1#1 ++ 0#1 ++ 1#1) ∧
    5#3 = candidate (1#1 ++ 1#1 ++ 1#1 ++ 1#1) ∧ (5#3, 3#3) ∈ [(3#3, 1#3), (4#3, 2#3), (5#3, 3#3)] ∧
    base.env = [] ∧ base.aflRun = 0#1 := by decide

theorem witness_AlarmActionTwiceChangesNothing :
    3 ≤ ({ base with mode := 3#3 } : State).mode.toNat ∧ base.env = [] ∧
    ∃ t u, exec .alarmAction { base with mode := 3#3 } = .next t ∧ exec .alarmAction t = .next u :=
  ⟨by decide, rfl, _, _, rfl, rfl⟩

theorem witness_StepKeepsThePowerPinsMirror : powerMirror (asked [.seq]) ∧ ∃ t, step (asked [.seq]) = .next t :=
  ⟨rfl, _, rfl⟩

theorem witness_StepKeepsTheCountersInRange :
    let s := { asked [.reset] with ppgCnt := halfTicks 0#8, aflRun := 1#1, aflCnt := oneSecTicks, seqHold := wait5Ticks }
    countersInRange s ∧ ∃ t, step s = .next t :=
  ⟨⟨le_refl _, fun _ => le_refl _, le_refl _⟩, _, rfl⟩

theorem witness_StepKeepsTheInterlock :
    let s := { asked [.seq] with seqPc := .nSetOn, moEnN := 0#1 }
    onlyActs s = true ∧ interlock s ∧ ∃ t, step s = .next t :=
  ⟨rfl, ⟨fun _ => rfl, fun _ => rfl, fun h => absurd h (by decide)⟩, _, rfl⟩

theorem witness_StepKeepsTheModeLegal :
    let s := { asked [.seq] with seqPc := .aSetAlarmState, mode := 5#3, alarmState := 3#3 }
    onlyActs s = true ∧ modeLegal s ∧ ∃ t, step s = .next t :=
  ⟨rfl, ⟨rfl, by decide⟩, _, rfl⟩

theorem witness_StepKeepsTheGateFromReset :
    let s := { asked [.pulseTick] with ppgCnt := 0 }
    gateFromReset s ∧ ∃ t, step s = .next t :=
  ⟨⟨fun h => absurd h (by decide), fun h => absurd h (by decide)⟩, _, rfl⟩

theorem witness_OnFollowsMoByFiveMilliseconds :
    (∃ t, exec (.setMo .sSetMo) base = .next t) ∧
    (let s := { asked [.seq] with seqPc := .sWait, now := 8 }
     onlyActs s = true ∧ 7 ≤ s.now ∧ startupClock 7 s ∧ ∃ t, step s = .next t) ∧
    (let s := { base with seqPc := .sSetOn, now := 1 + wait5Ticks }
     startupClock 0 s ∧ s.seqPc = .sSetOn ∧ enabled .seq s = true) :=
  ⟨⟨_, rfl⟩, ⟨rfl, by decide, ⟨fun _ => by decide, fun h => absurd h (by decide)⟩, _, rfl⟩,
   ⟨⟨fun h => absurd h (by simp), fun _ => by simp⟩, rfl, rfl⟩⟩

theorem witness_MoFollowsOnByOneMillisecond :
    (Label.aClrOn ∈ [Label.iClrOn, .fClrOn, .aClrOn] ∧ ∃ t, exec (.clrOn .aClrOn) base = .next t) ∧
    (let s := { asked [.seq] with seqPc := .fWait, now := 8 }
     onlyActs s = true ∧ 7 ≤ s.now ∧ shutdownClock 7 s ∧ ∃ t, step s = .next t) ∧
    (let s := { base with seqPc := .aClrMo, now := 1 + wait1Ticks }
     shutdownClock 0 s ∧ atClrMo s.seqPc = true ∧ enabled .seq s = true) :=
  ⟨⟨by decide, _, rfl⟩, ⟨rfl, by decide, ⟨fun _ => by decide, fun h => absurd h (by decide)⟩, _, rfl⟩,
   ⟨⟨fun h => absurd h (by simp [atShutdownWait]), fun _ => by simp⟩, rfl, rfl⟩⟩

theorem witness_OnlyOwnersWriteARegister :
    Instr.commit.WellFormed ∧ isComposite .commit = false ∧ Instr.commit ≠ .reset ∧ writesReg .commit .gate = false ∧
    ∃ t, exec .commit base = .next t :=
  ⟨by decide, by decide, by decide, by decide, _, rfl⟩

theorem witness_GateOnlyFallsAndGuideStays :
    Instr.controlCycle ≠ .reset ∧ ({ base with aflRun := 1#1 } : State).aflRun = 1#1 ∧
    noResetInside base ∧ noResetInside { base with env := [{ change := { dial := some 0#8 } }] } ∧
    ∃ t, exec .controlCycle { base with aflRun := 1#1 } = .next t :=
  ⟨by decide, by decide, by decide, by decide, _, rfl⟩

theorem witness_OnlyThreePairsRace :
    (∃ u v t w, exec .pulseTick base = .next u ∧ exec .flashTick u = .next v ∧ exec .flashTick base = .next t ∧
      exec .pulseTick t = .next w) ∧
    (isUop .setLed = true ∧ Instr.setLed ≠ .loadRate ∧ (∀ l, Instr.setLed ≠ .clrGate l) ∧
      ∃ u v t w, exec .pulseTick base = .next u ∧ exec .setLed u = .next v ∧ exec .setLed base = .next t ∧
        exec .pulseTick t = .next w) ∧
    (isUop .flashStart = true ∧ Instr.flashStart ≠ .setLed ∧ (∀ l, Instr.flashStart ≠ .clrLed l) ∧
      ∃ u v t w, exec .flashTick { base with aflRun := 1#1 } = .next u ∧ exec .flashStart u = .next v ∧
        exec .flashStart { base with aflRun := 1#1 } = .next t ∧ exec .flashTick t = .next w) :=
  ⟨⟨_, _, _, _, rfl, rfl, rfl, rfl⟩,
   ⟨by decide, by decide, (by simp), _, _, _, _, rfl, rfl, rfl, rfl⟩,
   ⟨by decide, by decide, (by simp), _, _, _, _, rfl, rfl, rfl, rfl⟩⟩

theorem witness_TimerPeriodsAreExact :
    halfTicks base.rateR ≤ halfTicks base.rateR ∧ 0 ≤ halfTicks base.rateR ∧
    ({ base with aflRun := 1#1 } : State).aflRun = 1#1 ∧ oneSecTicks ≤ oneSecTicks :=
  ⟨le_refl _, Nat.zero_le _, rfl, le_refl _⟩

theorem witness_ElapseIsARun : base.inp.rst = 0#1 := by decide

/-- A ready state for a composite of each kind. -/
theorem witness_CompositesAreRuns :
    (∀ p ∈ [(Instr.controlCycle, Label.cSample), (.nextMode, .cSample), (.startupSeq, .sSetMo), (.runOn, .nSetMo),
        (.runIdle, .iClrGate), (.runOffSetRate, .fClrGate), (.alarmAction, .aFlashStart),
        (.runAlarmReserved 1#1, .aFlashStart), (.shutdownSeq .aClrGate, .aClrGate),
        (.powerEncode .iLoadPower, .iLoadPower), (.rateEncode, .fLoadRate)],
      isComposite p.1 = true ∧ compositeReady p.1 { base with seqPc := p.2 } = true) ∧
    (∀ p ∈ [(Instr.runAlarmTemp, 3#3), (.runAlarmReflection, 4#3), (.runAlarmMo, 5#3), (.runAlarmReserved 0#1, 6#3)],
      isComposite p.1 = true ∧ compositeReady p.1 { base with seqPc := .aFlashStart, mode := p.2 } = true) ∧
    base.inp.rst = 0#1 ∧ ∃ t, exec .rateEncode { { base with seqPc := .fLoadRate } with agenda := [] } = .next t :=
  ⟨by decide, by decide, by decide, _, rfl⟩

theorem witness_DisplayRoundsAndBounds :
    0 < (Frac.mk 1 1).den ∧ 0 < (Frac.mk 8191 2).den ∧
    4096 = ⌊((8191 : ℕ) : ℚ) / (2 : ℕ) * (((1 : ℕ) : ℚ) / (1 : ℕ)) + 1 / 2⌋₊ := by
  refine ⟨by decide, by decide, ?_⟩
  norm_num

theorem witness_OutputPortsShowTheRegisters :
    base.inp.rst = 0#1 ∧ ({ base with inp := { base.inp with rst := 1#1 } } : State).inp.rst = 1#1 := by decide

end Sys2Proof.Tests
end

/-! ## Proofs: what an operation can do, said once, and what every step keeps

`Effect` is the inversion of `exec` and `step_inversion` that of `step`, operation words included. `KeptByParts` is the
induction they give: what every part of an operation keeps, every step keeps. -/

namespace Sys2Proof.Machine

/-- The acts SEQ performs: the micro-ops at their labels, and the last act of the four alarm rows, which is SET_ALARM_STATE
with the row's own label (44_alarm_actions.md R151 to R154). -/
inductive MicroOp : (State → State) → Prop where
  | sample : MicroOp doSample
  | decide : MicroOp doDecide
  | commit : MicroOp doCommit
  | dispatch : MicroOp doDispatch
  | loop : MicroOp doLoop
  | wait5ms : MicroOp doWait5ms
  | wait1ms (l : Label) : MicroOp (doWait1ms l)
  | setMo (l : Label) : MicroOp (doSetMo l)
  | setOn (l : Label) : MicroOp (doSetOn l)
  | clrOn (l : Label) : MicroOp (doClrOn l)
  | clrMo (l : Label) : MicroOp (doClrMo l)
  | clrGate (l : Label) : MicroOp (doClrGate l)
  | setLed : MicroOp doSetLed
  | clrLed (l : Label) : MicroOp (doClrLed l)
  | loadPower (l : Label) : MicroOp (doLoadPower l)
  | dispPower (l : Label) : MicroOp (doDispPower l)
  | loadRate : MicroOp doLoadRate
  | dispRate : MicroOp doDispRate
  | flashStart : MicroOp doFlashStart
  | clrDisplay : MicroOp doClrDisplay
  | setAlarmState : MicroOp doSetAlarmState
  | alarmLabel (label : Option (BitVec 3)) : MicroOp (doAlarmLabel label)

/-! ### The expansions of the composites consist of micro-ops -/

theorem startupOps_microOp : ∀ op ∈ startupOps, MicroOp op := by
  simp [startupOps, MicroOp.setMo, MicroOp.wait5ms, MicroOp.setOn]

theorem shutdownOps_microOp (l : Label) : ∀ op ∈ shutdownOps l, MicroOp op := by
  simp [shutdownOps, MicroOp.clrGate, MicroOp.clrOn, MicroOp.wait1ms, MicroOp.clrMo]

theorem powerOps_microOp (l : Label) : ∀ op ∈ powerOps l, MicroOp op := by
  simp [powerOps, MicroOp.loadPower, MicroOp.dispPower]

theorem rateOps_microOp : ∀ op ∈ rateOps, MicroOp op := by
  simp [rateOps, MicroOp.loadRate, MicroOp.dispRate]

theorem runOnOps_microOp : ∀ op ∈ runOnOps, MicroOp op :=
  List.forall_mem_append.mpr ⟨List.forall_mem_append.mpr ⟨by simp [MicroOp.setMo, MicroOp.setOn], powerOps_microOp _⟩,
    by simp [MicroOp.setLed]⟩

theorem runIdleOps_microOp : ∀ op ∈ runIdleOps, MicroOp op :=
  List.forall_mem_append.mpr ⟨List.forall_mem_append.mpr ⟨shutdownOps_microOp _, powerOps_microOp _⟩,
    by simp [MicroOp.clrLed]⟩

theorem runOffSetRateOps_microOp : ∀ op ∈ runOffSetRateOps, MicroOp op :=
  List.forall_mem_append.mpr ⟨List.forall_mem_append.mpr ⟨shutdownOps_microOp _, rateOps_microOp⟩,
    by simp [MicroOp.clrLed]⟩

theorem alarmOps_microOp {last : State → State} (h : MicroOp last) : ∀ op ∈ alarmOps last, MicroOp op :=
  List.forall_mem_append.mpr
    ⟨List.forall_mem_append.mpr ⟨by simp [MicroOp.flashStart, MicroOp.clrDisplay], shutdownOps_microOp _⟩, by simp [h]⟩

theorem actionOps_microOp (mode : BitVec 3) : ∀ op ∈ actionOps mode, MicroOp op := by
  unfold actionOps
  split
  · exact runOnOps_microOp
  split
  · exact runIdleOps_microOp
  split
  · exact runOffSetRateOps_microOp
  · exact alarmOps_microOp .setAlarmState

/-! ### What an operation and what a step can do -/

/-- What performing an operation in `s` can lead to: one act of SEQ, a candidate on the wire, a sequence of acts of SEQ with
time, the timers and ENV between them, or an event. -/
inductive Effect (s : State) : State → Prop where
  | microOp {op : State → State} (h : MicroOp op) : Effect s (op s)
  | candidate (v : BitVec 3) : Effect s { s with cand := v }
  | sequence {ops : List (State → State)} (h : ∀ op ∈ ops, MicroOp op) : Effect s (ended (performAll Config.lag ops s))
  | nextMode : Effect s (ended (nextModeRun Config.lag s))
  | controlCycle : Effect s (ended (controlCycleRun Config.lag s))
  | pulseTick : Effect s (doPulseTick s)
  | flashTick : Effect s (doFlashTick s)
  | advance : Effect s (doAdvance s)
  | reset : Effect s (doReset s)

/-- Every operation answers a next state, and its effect is one of those. -/
theorem exec_effect (s : State) : ∀ i : Instr, ∃ t, exec i s = .next t ∧ Effect s t
  | .runOn => ⟨_, rfl, .sequence runOnOps_microOp⟩
  | .runIdle => ⟨_, rfl, .sequence runIdleOps_microOp⟩
  | .runOffSetRate => ⟨_, rfl, .sequence runOffSetRateOps_microOp⟩
  | .runAlarmTemp => ⟨_, rfl, .sequence (alarmOps_microOp (.alarmLabel _))⟩
  | .runAlarmReflection => ⟨_, rfl, .sequence (alarmOps_microOp (.alarmLabel _))⟩
  | .runAlarmMo => ⟨_, rfl, .sequence (alarmOps_microOp (.alarmLabel _))⟩
  | .runAlarmReserved _ => ⟨_, rfl, .sequence (alarmOps_microOp (.alarmLabel _))⟩
  | .candAlarmTemp _ => ⟨_, rfl, .candidate 3#3⟩
  | .candAlarmReflection _ => ⟨_, rfl, .candidate 4#3⟩
  | .candAlarmMo _ => ⟨_, rfl, .candidate 5#3⟩
  | .candOn _ => ⟨_, rfl, .candidate 0#3⟩
  | .candOffSetRate => ⟨_, rfl, .candidate 2#3⟩
  | .candIdle => ⟨_, rfl, .candidate 1#3⟩
  | .sample => ⟨_, rfl, .microOp .sample⟩
  | .decide => ⟨_, rfl, .microOp .decide⟩
  | .setMo l => ⟨_, rfl, .microOp (.setMo l)⟩
  | .setOn l => ⟨_, rfl, .microOp (.setOn l)⟩
  | .clrOn l => ⟨_, rfl, .microOp (.clrOn l)⟩
  | .clrMo l => ⟨_, rfl, .microOp (.clrMo l)⟩
  | .clrGate l => ⟨_, rfl, .microOp (.clrGate l)⟩
  | .setLed => ⟨_, rfl, .microOp .setLed⟩
  | .clrLed l => ⟨_, rfl, .microOp (.clrLed l)⟩
  | .wait5ms => ⟨_, rfl, .microOp .wait5ms⟩
  | .wait1ms l => ⟨_, rfl, .microOp (.wait1ms l)⟩
  | .commit => ⟨_, rfl, .microOp .commit⟩
  | .dispatch => ⟨_, rfl, .microOp .dispatch⟩
  | .loop => ⟨_, rfl, .microOp .loop⟩
  | .loadPower l => ⟨_, rfl, .microOp (.loadPower l)⟩
  | .dispPower l => ⟨_, rfl, .microOp (.dispPower l)⟩
  | .loadRate => ⟨_, rfl, .microOp .loadRate⟩
  | .dispRate => ⟨_, rfl, .microOp .dispRate⟩
  | .flashStart => ⟨_, rfl, .microOp .flashStart⟩
  | .clrDisplay => ⟨_, rfl, .microOp .clrDisplay⟩
  | .setAlarmState => ⟨_, rfl, .microOp .setAlarmState⟩
  | .nextMode => ⟨_, rfl, .nextMode⟩
  | .startupSeq => ⟨_, rfl, .sequence startupOps_microOp⟩
  | .shutdownSeq l => ⟨_, rfl, .sequence (shutdownOps_microOp l)⟩
  | .powerEncode l => ⟨_, rfl, .sequence (powerOps_microOp l)⟩
  | .rateEncode => ⟨_, rfl, .sequence rateOps_microOp⟩
  | .alarmAction => ⟨_, rfl, .sequence (alarmOps_microOp .setAlarmState)⟩
  | .controlCycle => ⟨_, rfl, .controlCycle⟩
  | .pulseTick => ⟨_, rfl, .pulseTick⟩
  | .flashTick => ⟨_, rfl, .flashTick⟩
  | .advance => ⟨_, rfl, .advance⟩
  | .reset => ⟨_, rfl, .reset⟩

/-- A step performs an enabled act, or, with RST low, the operation that the word at the head of the agenda names; it does so
in a state that differs from `s` in the model's own bookkeeping alone. -/
theorem step_inversion {s t : State} (h : step s = .next t) :
    ∃ (ag : List Directive) (d p : Nat),
      (∃ a, enabled a s = true ∧ perform a { s with agenda := ag, draws := d, patience := p } = .next t) ∨
      (∃ w i after, s.agenda = .word w :: ag ∧ resetHeld s = false ∧ decode (wordBytes w) = .ok (i, after) ∧
        exec i { s with agenda := ag, draws := d, patience := p } = .next t) := by
  cases hag : s.agenda with
  | nil =>
    obtain ⟨a, p, ha, e⟩ := stepFree_cases s
    simp only [step, hag] at h
    exact ⟨s.agenda, s.draws + 1, p, .inl ⟨a, ha, e ▸ h⟩⟩
  | cons dir rest =>
    simp only [step, hag] at h
    cases dir with
    | act b =>
      obtain ⟨a, ag, d, p, ha, e, -⟩ := stepAct_cases b rest s
      exact ⟨ag, d, p, .inl ⟨a, ha, e ▸ h⟩⟩
    | word w =>
      simp only [stepWord] at h
      split at h
      · exact ⟨s.agenda, s.draws, s.patience, .inl ⟨.reset, rfl, h⟩⟩
      · next hr =>
        split at h
        · next i after hd => exact ⟨rest, s.draws, s.patience, .inr ⟨w, i, after, rfl, by simpa using hr, hd, h⟩⟩
        · cases h

/-! ### What every part of an operation keeps, every step keeps -/

/-- `P` is kept by every part an operation is made of: the acts of SEQ, the timers, the passing of a tick, RESET, ENV's
change of inputs, the candidate wire and the model's own bookkeeping. -/
structure KeptByParts (P : State → Prop) : Prop where
  microOp : ∀ {op : State → State}, MicroOp op → ∀ s, P s → P (op s)
  pulseTick : ∀ s, P s → P (doPulseTick s)
  flashTick : ∀ s, P s → P (doFlashTick s)
  passTick : ∀ s, P s → P (passTick s)
  reset : ∀ s, P s → P (doReset s)
  inputs : ∀ s c rest, P s → P { s with inp := changeInputs c s.inp, env := rest }
  candidate : ∀ s v, P s → P { s with cand := v }
  bookkeeping : ∀ s ag d p, P s → P { s with agenda := ag, draws := d, patience := p }

namespace KeptByParts

variable {P : State → Prop}

theorem firePulse (hP : KeptByParts P) (s : State) (h : P s) : P (firePulse s) := by
  unfold Machine.firePulse
  split
  · exact hP.pulseTick s h
  · exact h

theorem fireFlash (hP : KeptByParts P) (s : State) (h : P s) : P (fireFlash s) := by
  unfold Machine.fireFlash
  split
  · exact hP.flashTick s h
  · exact h

theorem elapse (hP : KeptByParts P) (n : Nat) (s : State) (h : P s) : P (elapse n s) := by
  induction n generalizing s with
  | zero => exact h
  | succ n ih => exact ih _ (hP.passTick _ (hP.fireFlash _ (hP.firePulse _ h)))

theorem comeTo (hP : KeptByParts P) (τ : Nat → Lag) (s : State) (h : P s) : P (comeTo τ s) := by
  have hn := hP.elapse (s.seqHold + (τ s.draws).ticks) _ (hP.bookkeeping s s.agenda (s.draws + 1) s.patience h)
  unfold Machine.comeTo
  dsimp only
  split <;> split
  · exact hP.fireFlash _ (hP.firePulse _ hn)
  · exact hP.fireFlash _ hn
  · exact hP.firePulse _ hn
  · exact hn

theorem performAll (hP : KeptByParts P) (τ : Nat → Lag) {ops : List (State → State)} (ho : ∀ op ∈ ops, MicroOp op)
    (s : State) (h : P s) : P (ended (performAll τ ops s)) :=
  ended_performAll_keeps τ (hP.comeTo τ) hP.inputs hP.reset (fun op hm => hP.microOp (ho op hm)) s h

theorem nextModeRun (hP : KeptByParts P) (τ : Nat → Lag) (s : State) (h : P s) : P (ended (nextModeRun τ s)) := by
  refine ended_bind_keeps (hP.performAll τ (by simp [MicroOp.sample, MicroOp.decide]) s h) fun t ht => ?_
  refine hP.performAll τ (List.forall_mem_append.mpr ⟨?_, by simp [MicroOp.commit]⟩) t ht
  split
  · exact startupOps_microOp
  · simp

theorem controlCycleRun (hP : KeptByParts P) (τ : Nat → Lag) (s : State) (h : P s) :
    P (ended (controlCycleRun τ s)) := by
  refine ended_bind_keeps (hP.nextModeRun τ s h) fun t ht => hP.performAll τ ?_ t ht
  exact List.forall_mem_append.mpr
    ⟨List.forall_mem_append.mpr ⟨by simp [MicroOp.dispatch], actionOps_microOp t.mode⟩, by simp [MicroOp.loop]⟩

theorem effect (hP : KeptByParts P) {s t : State} (he : Effect s t) (h : P s) : P t := by
  cases he with
  | microOp ho => exact hP.microOp ho s h
  | candidate v => exact hP.candidate s v h
  | sequence ho => exact hP.performAll _ ho s h
  | nextMode => exact hP.nextModeRun _ s h
  | controlCycle => exact hP.controlCycleRun _ s h
  | pulseTick => exact hP.pulseTick s h
  | flashTick => exact hP.flashTick s h
  | advance =>
    unfold doAdvance
    split
    · exact h
    · exact hP.passTick s h
  | reset => exact hP.reset s h

theorem exec (hP : KeptByParts P) (i : Instr) {s t : State} (h : P s) (e : exec i s = .next t) : P t := by
  obtain ⟨u, hu, he⟩ := exec_effect s i
  obtain rfl : u = t := by simpa [hu] using e
  exact hP.effect he h

theorem perform (hP : KeptByParts P) (a : Act) {s t : State} (h : P s) (e : perform a s = .next t) : P t := by
  cases a with
  | seq => exact hP.exec (uopAt s.seqPc) h e
  | pulseTick => exact hP.exec .pulseTick h e
  | flashTick => exact hP.exec .flashTick h e
  | advance => exact hP.exec .advance h e
  | reset => exact hP.exec .reset h e
  | input c =>
    cases e
    exact hP.inputs s c s.env h

/-- The induction of every invariant that holds whatever the agenda asks for, operation words included. -/
theorem step (hP : KeptByParts P) {s t : State} (h : P s) (e : step s = .next t) : P t := by
  obtain ⟨ag, d, p, ⟨a, -, ea⟩ | ⟨-, i, -, -, -, -, ei⟩⟩ := step_inversion e
  · exact hP.perform a (hP.bookkeeping s ag d p h) ea
  · exact hP.exec i (hP.bookkeeping s ag d p h) ei

end KeptByParts

/-! ### The power level and the power pins (10_state.md R33) -/

@[simp] theorem startFlasher_powerLevel (s : State) : (startFlasher s).powerLevel = s.powerLevel := by
  unfold startFlasher; split <;> rfl

@[simp] theorem startFlasher_pN (s : State) : (startFlasher s).pN = s.pN := by
  unfold startFlasher; split <;> rfl

@[simp] theorem writeAlarmLabel_powerLevel (label : Option (BitVec 3)) (s : State) :
    (writeAlarmLabel label s).powerLevel = s.powerLevel := by
  cases label <;> rfl

@[simp] theorem writeAlarmLabel_pN (label : Option (BitVec 3)) (s : State) : (writeAlarmLabel label s).pN = s.pN := by
  cases label <;> rfl

/-- LOAD_POWER alone of the micro-ops writes the power level and the power pins (10_state.md R32). -/
theorem MicroOp.loadPower_or_keeps_power {op : State → State} (h : MicroOp op) (s : State) :
    (∃ l, op = doLoadPower l) ∨ ((op s).powerLevel = s.powerLevel ∧ (op s).pN = s.pN) := by
  cases h with
  | loadPower l => exact .inl ⟨l, rfl⟩
  | flashStart => exact .inr ⟨startFlasher_powerLevel s, startFlasher_pN s⟩
  | setAlarmState => exact .inr ⟨writeAlarmLabel_powerLevel _ s, writeAlarmLabel_pN _ s⟩
  | alarmLabel label => exact .inr ⟨writeAlarmLabel_powerLevel label s, writeAlarmLabel_pN label s⟩
  | _ => exact .inr ⟨rfl, rfl⟩

/-- LOAD_POWER writes level and pins in one act, the pins as the complement (41_power_level_encoder.md R121). -/
theorem powerMirror_doLoadPower (l : Label) (s : State) : powerMirror (doLoadPower l s) := rfl

theorem powerMirror_reset : powerMirror State.reset := by decide

theorem powerMirror_keptByParts : KeptByParts powerMirror where
  microOp {op} ho s h := by
    obtain ⟨l, rfl⟩ | ⟨hlevel, hpins⟩ := ho.loadPower_or_keeps_power s
    · exact powerMirror_doLoadPower l s
    · rw [powerMirror, hlevel, hpins]; exact h
  pulseTick _ h := h
  flashTick _ h := h
  passTick _ h := h
  reset _ _ := powerMirror_reset
  inputs _ _ _ h := h
  candidate _ _ h := h
  bookkeeping _ _ _ _ h := h

end Sys2Proof.Machine

/-! ## The statements settled -/

namespace Sys2Proof.Proofs

open Sys2Proof.Machine

/-- Settles O44: of the parts an operation is made of, LOAD_POWER and RESET alone write level or pins, and both write the two
together. -/
theorem stepKeepsThePowerPinsMirror : Obligations.StepKeepsThePowerPinsMirror :=
  ⟨powerMirror_reset, fun _ _ h e => powerMirror_keptByParts.step h e⟩

/-- Settles O30: the reset state is written with the values of 10_state.md R35, the open parameters by name. -/
theorem resetStateValues : Obligations.ResetStateValues := by
  unfold Obligations.ResetStateValues
  exact ⟨rfl, rfl, rfl, rfl, rfl, rfl, rfl, rfl, rfl, rfl, rfl, rfl, rfl, rfl, rfl, rfl, rfl⟩

end Sys2Proof.Proofs

/-! ## Proofs: the conditions on time (20_memory.md R59, R60), and what ADVANCE does

Each Boolean condition of the schedule is said once as a proposition about the registers. -/

namespace Sys2Proof.Machine

theorem level_ne_one_iff (b : Level) : b ≠ 1#1 ↔ b = 0#1 := by
  obtain rfl | rfl := BitVec.eq_zero_or_eq_one b <;> decide

theorem resetHeld_eq_false_iff (s : State) : resetHeld s = false ↔ s.inp.rst = 0#1 := by
  rw [resetHeld, beq_eq_false_iff_ne]
  exact level_ne_one_iff s.inp.rst

theorem pulseDue_eq_false_iff (s : State) : pulseDue s = false ↔ 0 < s.ppgCnt := by
  rw [pulseDue, beq_eq_false_iff_ne, Nat.pos_iff_ne_zero]

theorem flashDue_eq_false_iff (s : State) : flashDue s = false ↔ s.aflRun = 0#1 ∨ 0 < s.aflCnt := by
  rw [flashDue, Bool.and_eq_false_iff, beq_eq_false_iff_ne, beq_eq_false_iff_ne, Nat.pos_iff_ne_zero]
  exact or_congr_left (level_ne_one_iff s.aflRun)

/-- Time may pass while each timer's counter is above 0 or its timer off (20_memory.md R59). -/
theorem timerDue_eq_false_iff (s : State) :
    timerDue s = false ↔ 0 < s.ppgCnt ∧ (s.aflRun = 0#1 ∨ 0 < s.aflCnt) := by
  rw [timerDue, Bool.or_eq_false_iff, pulseDue_eq_false_iff, flashDue_eq_false_iff]

theorem enabled_advance_iff (s : State) : enabled .advance s = true ↔ resetHeld s = false ∧ timerDue s = false := by
  simp only [enabled, Bool.and_eq_true, Bool.not_eq_true']

theorem exec_advance_of_not_timerDue {s : State} (h : timerDue s = false) : exec .advance s = .next (passTick s) := by
  have hpass : doAdvance s = passTick s := by rw [doAdvance, h, if_neg Bool.false_ne_true]
  exact congrArg _ hpass

/-- The natural subtraction in `passTick` takes one off `seq_hold` only while that is above 0. -/
theorem passTick_eq (s : State) :
    passTick s =
      { s with
        now := s.now + 1
        ppgCnt := s.ppgCnt - 1
        aflCnt := if s.aflRun = 1#1 then s.aflCnt - 1 else s.aflCnt
        seqHold := if 0 < s.seqHold then s.seqHold - 1 else s.seqHold } := by
  have hhold : s.seqHold - 1 = if 0 < s.seqHold then s.seqHold - 1 else s.seqHold := by
    split <;> omega
  rw [← hhold, passTick]

end Sys2Proof.Machine

namespace Sys2Proof.Proofs

open Sys2Proof.Machine

/-- Settles O28: ADVANCE is enabled as long as no timer operation is due, and performing it then is the passing of one tick. -/
theorem advancePassesOneTick : Obligations.AdvancePassesOneTick := by
  unfold Obligations.AdvancePassesOneTick
  refine ⟨fun s hrst => ?_, fun s hpulse hflash => ?_⟩
  · have hheld : resetHeld s = false := (resetHeld_eq_false_iff s).mpr hrst
    rw [enabled_advance_iff, timerDue_eq_false_iff, and_iff_right hheld]
  · have hdue : timerDue s = false := (timerDue_eq_false_iff s).mpr ⟨hpulse, hflash⟩
    rw [exec_advance_of_not_timerDue hdue, passTick_eq]

end Sys2Proof.Proofs

/-! ## Proofs: MODE3 (30_encoding.md R71) and the action DISPATCH goes to (40_mode_state_machine.md R102) -/

namespace Sys2Proof.Machine

theorem decodeMode3_reserved (x : Level) : decodeMode3 ((0b11#2 : BitVec 2) ++ x) = .runAlarmReserved x := by
  obtain rfl | rfl := BitVec.eq_zero_or_eq_one x <;> decide

/-- The seven rows of the table of R71 cover the values of `mode`. -/
theorem mode3_rows (m : BitVec 3) :
    m = 0b000#3 ∨ m = 0b001#3 ∨ m = 0b010#3 ∨ m = 0b011#3 ∨ m = 0b100#3 ∨ m = 0b101#3 ∨
      ∃ x : Level, m = (0b11#2 : BitVec 2) ++ x := by
  revert m
  decide

theorem actionEntry_reserved (x : Level) : actionEntry ((0b11#2 : BitVec 2) ++ x) = .aFlashStart := by
  obtain rfl | rfl := BitVec.eq_zero_or_eq_one x <;> decide

/-- The action of the mode that holds may begin exactly at the label to which DISPATCH sends that mode. -/
theorem compositeReady_decodeMode3_iff (s : State) :
    compositeReady (decodeMode3 s.mode) s = true ↔ s.seqPc = actionEntry s.mode := by
  obtain h | h | h | h | h | h | ⟨x, h⟩ := mode3_rows s.mode
  case inr.inr.inr.inr.inr.inr =>
    rw [h, decodeMode3_reserved, actionEntry_reserved]
    simp [compositeReady, h]
  all_goals simp [compositeReady, decodeMode3, actionEntry, h]

@[simp] theorem doDispatch_mode (s : State) : (doDispatch s).mode = s.mode := rfl

@[simp] theorem doDispatch_seqPc (s : State) : (doDispatch s).seqPc = actionEntry s.mode := rfl

theorem exec_dispatch (s : State) : exec .dispatch s = .next (doDispatch s) := rfl

theorem doDispatch_ready (s : State) : compositeReady (decodeMode3 s.mode) (doDispatch s) = true := by
  have hready := (compositeReady_decodeMode3_iff (doDispatch s)).mpr
  rw [doDispatch_mode, doDispatch_seqPc] at hready
  exact hready rfl

end Sys2Proof.Machine

namespace Sys2Proof.Proofs

open Sys2Proof.Machine

/-- Settles O4: the rows of the table one by one, and DISPATCH enters the action at the label where it begins. -/
theorem mode3SelectsTheAction : Obligations.Mode3SelectsTheAction := by
  unfold Obligations.Mode3SelectsTheAction
  refine ⟨⟨?on, ?idle, ?offSetRate, ?alarmTemp, ?alarmReflection, ?alarmMo, decodeMode3_reserved⟩, fun s => ?dispatch⟩
  case dispatch => exact ⟨doDispatch s, exec_dispatch s, doDispatch_ready s⟩
  all_goals decide

end Sys2Proof.Proofs

/-! ## Proofs: the micro-ops of the mode state machine (40_mode_state_machine.md)

What performing each of them does, said once, at whatever label it stands: the register it writes, and the common part of
R90. -/

namespace Sys2Proof.Machine

/-- The startup condition as a proposition (R99). -/
theorem startSeq_iff (cand mode : BitVec 3) : startSeq cand mode = true ↔ cand = 0#3 ∧ (mode = 1#3 ∨ mode = 2#3) := by
  simp only [startSeq, Bool.and_eq_true, Bool.or_eq_true, beq_iff_eq]

theorem doDispatch_eq (s : State) : doDispatch s = { s with seqHold := 1, seqPc := actionEntry s.mode } := rfl

section

variable (l : Label) (s : State)

theorem exec_sample :
    exec .sample s = .next { s with samp := readDiscrete s.inp, seqHold := 1, seqPc := .cDecide } := rfl

theorem exec_decide :
    exec .decide s = .next
      { s with
        cand := candidate s.samp
        seqHold := 1
        seqPc := if startSeq (candidate s.samp) s.mode then .sSetMo else .cCommit } := rfl

theorem exec_commit :
    exec .commit s = .next
      { s with cand := candidate s.samp, mode := candidate s.samp, seqHold := 1, seqPc := .cDispatch } := rfl

theorem exec_loop : exec .loop s = .next { s with seqHold := 1, seqPc := .cSample } := rfl

theorem exec_wait5ms : exec .wait5ms s = .next { s with seqHold := wait5Ticks, seqPc := .sSetOn } := rfl

theorem exec_wait1ms : exec (.wait1ms l) s = .next { s with seqHold := wait1Ticks, seqPc := succLabel l } := rfl

theorem exec_setMo : exec (.setMo l) s = .next { s with moEnN := 0#1, seqHold := 1, seqPc := succLabel l } := rfl

theorem exec_setOn : exec (.setOn l) s = .next { s with onEnN := 0#1, seqHold := 1, seqPc := succLabel l } := rfl

theorem exec_clrOn : exec (.clrOn l) s = .next { s with onEnN := 1#1, seqHold := 1, seqPc := succLabel l } := rfl

theorem exec_clrMo : exec (.clrMo l) s = .next { s with moEnN := 1#1, seqHold := 1, seqPc := succLabel l } := rfl

theorem exec_clrGate : exec (.clrGate l) s = .next { s with gate := 0#1, seqHold := 1, seqPc := succLabel l } := rfl

theorem exec_setLed : exec .setLed s = .next { s with led := 1#1, seqHold := 1, seqPc := .cLoop } := rfl

theorem exec_clrLed : exec (.clrLed l) s = .next { s with led := 0#1, seqHold := 1, seqPc := succLabel l } := rfl

end

end Sys2Proof.Machine

namespace Sys2Proof.Proofs

open Sys2Proof.Machine

/-- Settles O13: what SAMPLE latches is the vector of the discrete levels of 30_encoding.md R72. -/
theorem sampleLatchesTheInputs : Obligations.SampleLatchesTheInputs := by
  unfold Obligations.SampleLatchesTheInputs
  intro s
  rw [exec_sample, readDiscrete]

/-- Settles O14: DECIDE branches on the startup condition of the candidate and the mode still held. -/
theorem decideTestsTheStartupCondition : Obligations.DecideTestsTheStartupCondition := by
  unfold Obligations.DecideTestsTheStartupCondition
  intro s
  simp only [exec_decide, startSeq_iff]

/-- Settles O15: `mode` gets the level that the same act puts on the candidate wire, which is one of the six modes. -/
theorem commitWritesTheCandidate : Obligations.CommitWritesTheCandidate := by
  unfold Obligations.CommitWritesTheCandidate
  exact fun s => ⟨exec_commit s, candidate_le_five s.samp⟩

/-- Settles O16: the label to which DISPATCH goes is the entry of the mode's action. -/
theorem dispatchBranchesOnTheMode : Obligations.DispatchBranchesOnTheMode := by
  unfold Obligations.DispatchBranchesOnTheMode
  intro s
  rw [exec_dispatch, doDispatch_eq, actionEntry]

/-- Settles O17: the labels of WAIT_1MS differ in their successor alone. -/
theorem loopAndWaitsOnlyMoveTheSequencer : Obligations.LoopAndWaitsOnlyMoveTheSequencer := by
  unfold Obligations.LoopAndWaitsOnlyMoveTheSequencer
  intro s
  exact ⟨exec_loop s, exec_wait5ms s, exec_wait1ms .iWait s, exec_wait1ms .fWait s, exec_wait1ms .aWait s⟩

/-- Settles O18: the labels of one enable micro-op differ in their successor alone. -/
theorem enableMicroOpsWriteTheirPin : Obligations.EnableMicroOpsWriteTheirPin := by
  unfold Obligations.EnableMicroOpsWriteTheirPin
  intro s
  exact
    ⟨exec_setMo .sSetMo s, exec_setMo .nSetMo s,
      exec_setOn .sSetOn s, exec_setOn .nSetOn s,
      exec_clrOn .iClrOn s, exec_clrOn .fClrOn s, exec_clrOn .aClrOn s,
      exec_clrMo .iClrMo s, exec_clrMo .fClrMo s, exec_clrMo .aClrMo s⟩

/-- Settles O19: CLR_GATE and CLR_LED write the same register at each of their labels, and SET_LED has one label. -/
theorem gateAndLedMicroOpsWriteTheirRegister : Obligations.GateAndLedMicroOpsWriteTheirRegister := by
  unfold Obligations.GateAndLedMicroOpsWriteTheirRegister
  intro s
  exact
    ⟨exec_clrGate .iClrGate s, exec_clrGate .fClrGate s, exec_clrGate .aClrGate s,
      exec_setLed s, exec_clrLed .iClrLed s, exec_clrLed .fClrLed s⟩

end Sys2Proof.Proofs

/-! ## Proofs: the micro-ops of the encoders (41_power_level_encoder.md, 42_pulse_rate_encoder.md)

LOAD_POWER reads the dial; the DISP micro-ops read what a LOAD has stored. -/

namespace Sys2Proof.Machine

section

variable (l : Label) (s : State)

theorem exec_loadPower :
    exec (.loadPower l) s = .next
      { s with powerLevel := s.inp.dial, pN := ~~~s.inp.dial, seqHold := 1, seqPc := succLabel l } := rfl

theorem exec_dispPower :
    exec (.dispPower l) s = .next
      { s with displayCode := disp (pwrMv s.powerLevel), seqHold := 1, seqPc := succLabel l } := rfl

theorem exec_dispRate :
    exec .dispRate s = .next
      { s with displayCode := disp (rateDisp s.rateR), seqHold := 1, seqPc := .fClrLed } := rfl

end

/-- The two labels of LOAD_POWER, each with its successor in the microprogram (40_mode_state_machine.md R90). -/
theorem succLabel_of_mem_loadPower_labels {l next : Label}
    (h : (l, next) ∈ [(Label.nLoadPower, Label.nDispPower), (.iLoadPower, .iDispPower)]) : succLabel l = next := by
  simp only [List.mem_cons, List.not_mem_nil, or_false, Prod.mk.injEq] at h
  obtain ⟨rfl, rfl⟩ | ⟨rfl, rfl⟩ := h
  · rfl
  · rfl

end Sys2Proof.Machine

namespace Sys2Proof.Proofs

open Sys2Proof.Machine

/-- Settles O20: the labels of LOAD_POWER differ in their successor alone, and the complement of a byte is taken bit by bit
(format PWR8). -/
theorem loadPowerWritesLevelAndPins : Obligations.LoadPowerWritesLevelAndPins := by
  unfold Obligations.LoadPowerWritesLevelAndPins
  intro s l next hrow
  rw [exec_loadPower, succLabel_of_mem_loadPower_labels hrow]
  exact ⟨rfl, fun i => BitVec.getElem_not i.isLt⟩

/-- Settles O21: DISP_POWER reads the stored level and DISP_RATE the stored rate, neither the dial. -/
theorem displayMicroOpsWriteTheCode : Obligations.DisplayMicroOpsWriteTheCode := by
  unfold Obligations.DisplayMicroOpsWriteTheCode
  intro s
  exact ⟨exec_dispPower .nDispPower s, exec_dispPower .iDispPower s, exec_dispRate s⟩

end Sys2Proof.Proofs

/-! ## Proofs: the pulse event (43_periodic_pulse_generator.md) -/

namespace Sys2Proof.Machine

theorem exec_pulseTick (s : State) : exec .pulseTick s = .next (doPulseTick s) := rfl

theorem doPulseTick_eq (s : State) :
    doPulseTick s = { s with pulse := ~~~s.pulse, laserEn := laserEnOf s.gate, ppgCnt := halfTicks s.rateR } := rfl

end Sys2Proof.Machine

namespace Sys2Proof.Proofs

open Sys2Proof.Machine

/-- Settles O26: the level of laser-enable is the one that the gate found at the tick selects. -/
theorem pulseTickTogglesAndGates : Obligations.PulseTickTogglesAndGates := by
  unfold Obligations.PulseTickTogglesAndGates
  intro s
  rw [exec_pulseTick, doPulseTick_eq, laserEnOf]

end Sys2Proof.Proofs

/-! ## Proofs: the micro-ops of the alarm action (44_alarm_actions.md)

FLASH_START is the one with a case split: whether the flasher runs. -/

namespace Sys2Proof.Machine

theorem startFlasher_of_stopped {s : State} (h : s.aflRun = 0#1) :
    startFlasher s = { s with aflRun := 1#1, aflCnt := oneSecTicks } := if_pos h

theorem startFlasher_of_running {s : State} (h : s.aflRun = 1#1) : startFlasher s = s :=
  if_neg (by simp [h])

/-- Both cases of R155 in one equation: where the flasher runs, the write of 1 to `afl_run` changes nothing. -/
theorem startFlasher_eq (s : State) :
    startFlasher s = { s with aflRun := 1#1, aflCnt := if s.aflRun = 0#1 then oneSecTicks else s.aflCnt } := by
  obtain hstopped | hrunning := BitVec.eq_zero_or_eq_one s.aflRun
  · rw [startFlasher_of_stopped hstopped, if_pos hstopped]
  · have hne : s.aflRun ≠ 0#1 := by simp [hrunning]
    rw [startFlasher_of_running hrunning, if_neg hne, ← hrunning]

theorem exec_flashStart (s : State) :
    exec .flashStart s = .next { startFlasher s with seqHold := 1, seqPc := .aClrDisplay } := rfl

theorem exec_clrDisplay (s : State) :
    exec .clrDisplay s = .next { s with displayCode := 0#12, seqHold := 1, seqPc := .aClrGate } := rfl

end Sys2Proof.Machine

namespace Sys2Proof.Proofs

open Sys2Proof.Machine

/-- Settles O23: FLASH_START is the start of the flasher, in either of its cases, and the common part of R90. -/
theorem flashStartIsIdempotent : Obligations.FlashStartIsIdempotent := by
  unfold Obligations.FlashStartIsIdempotent
  intro s
  rw [exec_flashStart, startFlasher_eq]

/-- Settles O24: the code 0 is written directly, not through the Display Encoder (D27). -/
theorem clrDisplayWritesZero : Obligations.ClrDisplayWritesZero := by
  unfold Obligations.ClrDisplayWritesZero
  exact exec_clrDisplay

end Sys2Proof.Proofs

/-! ## Proofs: the display function (45_display_encoder.md)

The model computes on numerators and denominators. `rhu_eq_floor` and `fracMul_ratio` say what that means over the rationals,
`toNat_bound12` what the 12-bit port shows. -/

namespace Sys2Proof.Machine

/-- The product of the fractions is the product of their values; a denominator of 0 does no harm, the value of such a
fraction being 0 on both sides. -/
theorem fracMul_ratio (a b : Frac) :
    ((fracMul a b).num : ℚ) / (fracMul a b).den = (a.num : ℚ) / a.den * ((b.num : ℚ) / b.den) := by
  simp only [fracMul, Nat.cast_mul, div_mul_div_comm]

theorem fracMul_den_pos {a b : Frac} (ha : 0 < a.den) (hb : 0 < b.den) : 0 < (fracMul a b).den := Nat.mul_pos ha hb

/-- Rounding on naturals is rounding over the rationals, a tie going up (00_scope.md R7): the sum `q + 1/2` over the common
denominator `2 * q.den` is the quotient that `rhu` takes. -/
theorem rhu_eq_floor {q : Frac} (hden : 0 < q.den) : rhu q = ⌊(q.num : ℚ) / q.den + 1 / 2⌋₊ := by
  have hne : (q.den : ℚ) ≠ 0 := by exact_mod_cast hden.ne'
  have hsum : (q.num : ℚ) / q.den + 1 / 2 = ((2 * q.num + q.den : ℕ) : ℚ) / (2 * q.den : ℕ) := by
    push_cast
    field_simp
  rw [hsum, Nat.floor_div_eq_div, rhu]

/-- Zero rounds to zero: the half that `rhu` adds does not reach 1. -/
theorem rhu_of_num_eq_zero {q : Frac} (hnum : q.num = 0) (hden : 0 < q.den) : rhu q = 0 := by
  rw [rhu, hnum]
  exact Nat.div_eq_of_lt (by omega)

theorem bound12_of_le (ovf : DisplayOvf) {n : Nat} (h : n ≤ 4095) : bound12 ovf n = BitVec.ofNat 12 n := if_pos h

theorem bound12_saturate_of_gt {n : Nat} (h : ¬ n ≤ 4095) : bound12 .saturate n = 4095#12 := if_neg h

theorem bound12_wrap_of_gt {n : Nat} (h : ¬ n ≤ 4095) : bound12 .wrap n = BitVec.ofNat 12 (n % 4096) := if_neg h

/-- The cases of R162, as the number that the port shows. -/
theorem toNat_bound12 (ovf : DisplayOvf) (n : Nat) :
    (bound12 ovf n).toNat = if n ≤ 4095 then n else if ovf = .saturate then 4095 else n % 4096 := by
  by_cases hfits : n ≤ 4095
  · rw [if_pos hfits, bound12_of_le ovf hfits, BitVec.toNat_ofNat]
    exact Nat.mod_eq_of_lt (by omega)
  · rw [if_neg hfits]
    cases ovf with
    | saturate => rw [bound12_saturate_of_gt hfits, if_pos rfl]; rfl
    | wrap => simp [bound12_wrap_of_gt hfits]

theorem dispWith_zero (ovf : DisplayOvf) {dm x : Frac} (hnum : x.num = 0) (hdm : 0 < dm.den) (hx : 0 < x.den) :
    dispWith ovf dm x = 0#12 := by
  have hprod : (fracMul x dm).num = 0 := by rw [fracMul, hnum, Nat.zero_mul]
  rw [dispWith, rhu_of_num_eq_zero hprod (fracMul_den_pos hx hdm)]
  rfl

end Sys2Proof.Machine

namespace Sys2Proof.Proofs

open Sys2Proof.Machine

/-- Settles O57: the number that meets the boundary is the rounded product, and the port shows what R162 makes of it. -/
theorem displayRoundsAndBounds : Obligations.DisplayRoundsAndBounds := by
  unfold Obligations.DisplayRoundsAndBounds
  refine ⟨?rounds, fun ovf dm d hdm hd => dispWith_zero ovf rfl hdm hd⟩
  case rounds =>
    intro ovf dm x n hdm hx hn
    have hround : rhu (fracMul x dm) = n := by
      rw [rhu_eq_floor (fracMul_den_pos hx hdm), fracMul_ratio, hn]
    rw [dispWith, hround, toNat_bound12]

end Sys2Proof.Proofs

/-! ## Proofs: the toggle event of the alarm flasher (46_alarm_flasher.md) -/

namespace Sys2Proof.Machine

theorem exec_flashTick (s : State) : exec .flashTick s = .next (doFlashTick s) := rfl

theorem doFlashTick_eq (s : State) : doFlashTick s = { s with led := ~~~s.led, aflCnt := oneSecTicks } := rfl

end Sys2Proof.Machine

namespace Sys2Proof.Proofs

open Sys2Proof.Machine

/-- Settles O27: the toggle complements whatever level `led` holds; that the flasher runs is a matter of enabling (R59). -/
theorem flashTickTogglesTheLed : Obligations.FlashTickTogglesTheLed := by
  unfold Obligations.FlashTickTogglesTheLed
  intro s
  rw [exec_flashTick, doFlashTick_eq]

end Sys2Proof.Proofs

/-! ## Proofs: no operation fails (60_exceptions.md)

That every operation answers is half of `exec_effect`. A step of a run is an operation or a change of inputs, so it answers
as well; only a word on the agenda could be refused. -/

namespace Sys2Proof.Machine

theorem exec_answers (i : Instr) (s : State) : ∃ t, exec i s = .next t := by
  obtain ⟨t, hexec, -⟩ := exec_effect s i
  exact ⟨t, hexec⟩

theorem perform_answers (a : Act) (s : State) : ∃ t, perform a s = .next t := by
  cases a with
  | seq => exact exec_answers (uopAt s.seqPc) s
  | pulseTick => exact exec_answers .pulseTick s
  | flashTick => exact exec_answers .flashTick s
  | advance => exact exec_answers .advance s
  | reset => exact exec_answers .reset s
  | input c => exact ⟨{ s with inp := changeInputs c s.inp }, rfl⟩

theorem stepFree_answers (s : State) : ∃ t, stepFree s = .next t := by
  obtain ⟨a, p, -, hstep⟩ := stepFree_cases s
  rw [hstep]
  exact perform_answers a _

theorem stepAct_answers (b : Act) (rest : List Directive) (s : State) : ∃ t, stepAct b rest s = .next t := by
  obtain ⟨a, ag, d, p, -, hstep, -⟩ := stepAct_cases b rest s
  rw [hstep]
  exact perform_answers a _

theorem step_of_agenda_nil {s : State} (h : s.agenda = []) : step s = stepFree s := by
  rw [step, h]

theorem step_of_agenda_act {s : State} {a : Act} {rest : List Directive} (h : s.agenda = .act a :: rest) :
    step s = stepAct a rest s := by
  rw [step, h]

theorem onlyActs_of_agenda_word {s : State} {w : OpWord} {rest : List Directive} (h : s.agenda = .word w :: rest) :
    onlyActs s = false := by
  simp [onlyActs, h]

theorem step_answers {s : State} (h : onlyActs s = true) : ∃ t, step s = .next t := by
  cases hag : s.agenda with
  | nil =>
    rw [step_of_agenda_nil hag]
    exact stepFree_answers s
  | cons dir rest =>
    cases dir with
    | act a =>
      rw [step_of_agenda_act hag]
      exact stepAct_answers a rest s
    | word w => simp [onlyActs_of_agenda_word hag] at h

end Sys2Proof.Machine

namespace Sys2Proof.Proofs

open Sys2Proof.Machine

/-- Settles O9: R180 for every operation, and from it for every step of a run, since a run meets no agenda word. -/
theorem noOperationFails : Obligations.NoOperationFails := by
  unfold Obligations.NoOperationFails
  exact ⟨exec_answers, fun s h => step_answers h⟩

end Sys2Proof.Proofs

/-! ## Proofs: the minimum durations (70_reset_and_hazards.md R225)

Each micro-op retires with the duration of its label. A step of a run that finds SEQ held is not one of SEQ's own, and of the
others only the passing of a tick and RESET touch the clock or `seq_hold`. -/

namespace Sys2Proof.Machine

/-- `MINDUR` of the micro-op at each label, in ticks. -/
def minDurAt : Label → Nat
  | .sWait => wait5Ticks
  | .iWait | .fWait | .aWait => wait1Ticks
  | _ => minDur

theorem minDurAt_eq (l : Label) :
    minDurAt l = if l = .sWait then wait5Ticks else if l = .iWait ∨ l = .fWait ∨ l = .aWait then wait1Ticks else 1 := by
  cases l <;> rfl

/-- The micro-op at a label ends with the common part of R90, which holds SEQ for the label's duration. -/
theorem exec_uopAt_retires (l : Label) (s : State) :
    ∃ next u, exec (uopAt l) s = .next (retire (minDurAt l) next u) := by
  cases l <;> exact ⟨_, _, rfl⟩

theorem exec_uopAt_seqHold {l : Label} {s t : State} (h : exec (uopAt l) s = .next t) : t.seqHold = minDurAt l := by
  obtain ⟨next, u, hretire⟩ := exec_uopAt_retires l s
  obtain rfl : retire (minDurAt l) next u = t := by simpa [hretire] using h
  exact retire_seqHold _ next u

theorem enabled_seq_iff (s : State) : enabled .seq s = true ↔ resetHeld s = false ∧ s.seqHold = 0 := by
  simp only [enabled, Bool.and_eq_true, Bool.not_eq_true', beq_iff_eq]

theorem exec_reset (s : State) : exec .reset s = .next (doReset s) := rfl

/-- The tick that passes is one tick less to hold. -/
theorem passTick_now_add_seqHold {s : State} (hhold : 0 < s.seqHold) :
    (passTick s).now + (passTick s).seqHold = s.now + s.seqHold := by
  rw [passTick_now, passTick_seqHold]
  omega

/-- While SEQ is held, an enabled act leaves it at its label and keeps the tick until which it is held, or is a RESET. -/
theorem perform_while_seq_held {a : Act} {s t : State} (h : perform a s = .next t) (ha : enabled a s = true)
    (hhold : 0 < s.seqHold) :
    (t.seqPc = s.seqPc ∧ t.now + t.seqHold = s.now + s.seqHold) ∨ (t.seqPc = .cSample ∧ t.now = 0 ∧ t.seqHold = 0) := by
  cases a with
  | seq =>
    obtain ⟨-, hzero⟩ := (enabled_seq_iff s).mp ha
    omega
  | pulseTick =>
    rw [perform, exec_pulseTick] at h
    cases h
    exact .inl ⟨doPulseTick_seqPc s, rfl⟩
  | flashTick =>
    rw [perform, exec_flashTick] at h
    cases h
    exact .inl ⟨doFlashTick_seqPc s, rfl⟩
  | advance =>
    obtain ⟨-, hdue⟩ := (enabled_advance_iff s).mp ha
    rw [perform, exec_advance_of_not_timerDue hdue] at h
    cases h
    exact .inl ⟨passTick_seqPc s, passTick_now_add_seqHold hhold⟩
  | reset =>
    rw [perform, exec_reset] at h
    cases h
    exact .inr ⟨doReset_seqPc s, doReset_now s, doReset_seqHold s⟩
  | input c =>
    rw [perform] at h
    cases h
    exact .inl ⟨rfl, rfl⟩

end Sys2Proof.Machine

namespace Sys2Proof.Proofs

open Sys2Proof.Machine

/-- Settles O11: the durations are those with which the micro-ops retire, the timer operations leave the clock alone, and a
step of a run is an enabled act, which while SEQ is held keeps the tick until which it is. -/
theorem minimumDurationsAreKept : Obligations.MinimumDurationsAreKept := by
  unfold Obligations.MinimumDurationsAreKept
  refine ⟨fun l s t h => ?durations, fun i s t hi h => ?timers, fun s t hrun hhold h => ?held⟩
  case durations => rw [exec_uopAt_seqHold h, minDurAt_eq]
  case timers =>
    obtain rfl | rfl := hi
    · rw [exec_pulseTick] at h
      cases h
      exact doPulseTick_now s
    · rw [exec_flashTick] at h
      cases h
      exact doFlashTick_now s
  case held =>
    obtain ⟨a, ag, d, p, ha, hperform, -⟩ := step_cases hrun h
    rw [← enabled_bookkeeping a s ag d p] at ha
    have hkept := perform_while_seq_held hperform ha hhold
    exact hkept

end Sys2Proof.Proofs

/-! ## Proofs: the decoder and the encoder (30_encoding.md R71, R74; log 4)

`Coded i w` says in one place which word stands for which operation, format by format: the well-formed operations are those
that have a word, and decoding reads it, but for the IN4 values among the words of format 0 (log 5). -/

namespace Sys2Proof.Machine

/-- `w` is the word of the operation `i`, in the format of its row. -/
inductive Coded : Instr → OpWord → Prop where
  | mode3 (m : BitVec 3) : Coded (decodeMode3 m) (mode3Word m)
  | in4 (v : BitVec 4) : Coded (decodeIn4 v) (in4Word v)
  | uop (l : Label) : Coded (uopAt l) (uopWord l)
  | composite {i : Instr} {n : Nat} (h : compositeTable[n]? = some i) : Coded i (compositeWord n)
  | event {i : Instr} {n : Nat} (h : eventTable[n]? = some i) : Coded i (eventWord n)

/-! ### The words as numbers -/

theorem toNat_mode3Word (m : BitVec 3) : (mode3Word m).toNat = m.toNat := by
  revert m; decide

theorem toNat_in4Word (v : BitVec 4) : (in4Word v).toNat = 256 + v.toNat := by
  revert v; decide

theorem toNat_uopWord (l : Label) : (uopWord l).toNat = 512 + l.index := by
  cases l <;> rfl

theorem toNat_append_ofNat (format : Byte) {n : Nat} (h : n < 256) :
    (format ++ BitVec.ofNat 8 n : OpWord).toNat = format.toNat * 256 + n := by
  have hmod : (BitVec.ofNat 8 n).toNat = n := by simpa using h
  rw [BitVec.toNat_append, hmod, ← Nat.shiftLeft_add_eq_or_of_lt h, Nat.shiftLeft_eq]

theorem lt_of_compositeTable {i : Instr} {n : Nat} (h : compositeTable[n]? = some i) : n < 10 :=
  (List.getElem?_eq_some_iff.mp h).1

theorem lt_of_eventTable {i : Instr} {n : Nat} (h : eventTable[n]? = some i) : n < 4 :=
  (List.getElem?_eq_some_iff.mp h).1

theorem toNat_compositeWord {n : Nat} (h : n < 10) : (compositeWord n).toNat = 768 + n :=
  toNat_append_ofNat 3#8 (by omega)

theorem toNat_eventWord {n : Nat} (h : n < 4) : (eventWord n).toNat = 1024 + n :=
  toNat_append_ofNat 4#8 (by omega)

/-! ### What decoding answers -/

/-- The bytes of a word, put together again, are the word. -/
theorem bytes_append (w : OpWord) : (w.extractLsb' 8 8 ++ w.extractLsb' 0 8 : OpWord) = w := by
  refine BitVec.eq_of_toNat_eq ?_
  have hlow : (w.extractLsb' 0 8).toNat = w.toNat % 256 := by simp
  have hhigh : (w.extractLsb' 8 8).toNat = w.toNat / 256 := by
    have hw := w.isLt
    simp [Nat.shiftRight_eq_div_pow]
    omega
  rw [BitVec.toNat_append, hlow, hhigh, ← Nat.shiftLeft_add_eq_or_of_lt (Nat.mod_lt _ (by norm_num)), Nat.shiftLeft_eq]
  omega

theorem decode_wordBytes (w : OpWord) : decode (wordBytes w) = (decodeWord w).map fun i => (i, []) := by
  rw [wordBytes, decode, bytes_append]

theorem decodeWord_uopWord (l : Label) : decodeWord (uopWord l) = .ok (uopAt l) := by
  cases l <;> rfl

/-- The word of an operation decodes to it. -/
theorem Coded.decodeWord_eq {i : Instr} {w : OpWord} (h : Coded i w) : decodeWord w = .ok i := by
  cases h with
  | mode3 m => revert m; decide
  | in4 v => revert v; decide
  | uop l => exact decodeWord_uopWord l
  | @composite _ n hn =>
    have hlt := lt_of_compositeTable hn
    have hformat : (768 + n) / 256 = 3 := by omega
    have hselector : (768 + n) % 256 = n := by omega
    rw [decodeWord, toNat_compositeWord hlt, hformat, hselector, decodeParts, lookup, hn]
  | @event _ n hn =>
    have hlt := lt_of_eventTable hn
    have hformat : (1024 + n) / 256 = 4 := by omega
    have hselector : (1024 + n) % 256 = n := by omega
    rw [decodeWord, toNat_eventWord hlt, hformat, hselector, decodeParts, lookup, hn]

theorem lookup_eq_ok_iff {table : List Instr} {n : Nat} {e : DecodeError} {i : Instr} :
    lookup table n e = .ok i ↔ table[n]? = some i := by
  unfold lookup
  split <;> simp_all

/-- What a format byte and a selector byte can name. -/
theorem decodeParts_inversion {format selector : Nat} {i : Instr} (h : decodeParts format selector = .ok i) :
    (format = 0 ∧ selector < 8 ∧ i = decodeMode3 (BitVec.ofNat 3 selector)) ∨
    ((format = 0 ∧ 8 ≤ selector ∨ format = 1) ∧ selector < 16 ∧ i = decodeIn4 (BitVec.ofNat 4 selector)) ∨
    (format = 2 ∧ ∃ l, labelTable[selector]? = some l ∧ i = uopAt l) ∨
    (format = 3 ∧ compositeTable[selector]? = some i) ∨
    (format = 4 ∧ eventTable[selector]? = some i) := by
  unfold decodeParts at h
  split at h
  case h_1 =>
    split at h
    · cases h; exact .inl ⟨rfl, ‹_›, rfl⟩
    · split at h
      · cases h; exact .inr (.inl ⟨.inl ⟨rfl, by omega⟩, ‹_›, rfl⟩)
      · cases h
  case h_2 =>
    split at h
    · cases h; exact .inr (.inl ⟨.inr rfl, ‹_›, rfl⟩)
    · cases h
  case h_3 =>
    rw [lookup_eq_ok_iff, List.getElem?_map, Option.map_eq_some_iff] at h
    obtain ⟨l, hl, rfl⟩ := h
    exact .inr (.inr (.inl ⟨rfl, l, hl, rfl⟩))
  case h_4 => exact .inr (.inr (.inr (.inl ⟨rfl, lookup_eq_ok_iff.mp h⟩)))
  case h_5 => exact .inr (.inr (.inr (.inr ⟨rfl, lookup_eq_ok_iff.mp h⟩)))
  case h_6 => cases h

theorem index_of_labelTable {n : Nat} {l : Label} (h : labelTable[n]? = some l) : l.index = n := by
  have hn : n < 34 := (List.getElem?_eq_some_iff.mp h).1
  have hall : ∀ k < 34, ∀ l' ∈ labelTable[k]?, l'.index = k := by decide
  exact hall n hn l h

/-- A word is known by its value. -/
theorem Coded.of_toNat_eq {i : Instr} {v w : OpWord} (h : Coded i v) (e : v.toNat = w.toNat) : Coded i w := by
  obtain rfl := BitVec.eq_of_toNat_eq e
  exact h

/-- A word that decodes is the word of the operation it names, or one of the words 8 to 15, which are read as IN4 values
(log 5). -/
theorem coded_of_decodeWord {w : OpWord} {i : Instr} (h : decodeWord w = .ok i) :
    Coded i w ∨ (8 ≤ w.toNat ∧ w.toNat < 16 ∧ ∃ v, i = decodeIn4 v) := by
  have hbytes : w.toNat / 256 * 256 + w.toNat % 256 = w.toNat := by omega
  obtain ⟨hf, hs, rfl⟩ | ⟨hf, hs, rfl⟩ | ⟨hf, l, hl, rfl⟩ | ⟨hf, hi⟩ | ⟨hf, hi⟩ := decodeParts_inversion h
  · refine .inl ((Coded.mode3 _).of_toNat_eq ?_)
    rw [toNat_mode3Word, BitVec.toNat_ofNat]
    omega
  · obtain ⟨hf, hlow⟩ | hf := hf
    · exact .inr ⟨by omega, by omega, _, rfl⟩
    · refine .inl ((Coded.in4 _).of_toNat_eq ?_)
      rw [toNat_in4Word, BitVec.toNat_ofNat]
      omega
  · refine .inl ((Coded.uop l).of_toNat_eq ?_)
    have hindex := index_of_labelTable hl
    rw [toNat_uopWord]
    omega
  · refine .inl ((Coded.composite hi).of_toNat_eq ?_)
    rw [toNat_compositeWord (lt_of_compositeTable hi)]
    omega
  · refine .inl ((Coded.event hi).of_toNat_eq ?_)
    rw [toNat_eventWord (lt_of_eventTable hi)]
    omega

/-! ### What encoding answers -/

theorem encode_decodeMode3 (m : BitVec 3) : encode (decodeMode3 m) = mode3Word m := by
  revert m; decide

theorem encode_decodeIn4 (v : BitVec 4) : encode (decodeIn4 v) = in4Word v := by
  revert v; decide

theorem encode_uopAt (l : Label) : encode (uopAt l) = uopWord l := by
  cases l <;> rfl

theorem encode_of_compositeTable {i : Instr} {n : Nat} (h : compositeTable[n]? = some i) : encode i = compositeWord n := by
  have hall : ∀ k < 10, ∀ j ∈ compositeTable[k]?, encode j = compositeWord k := by decide
  exact hall n (lt_of_compositeTable h) i h

theorem encode_of_eventTable {i : Instr} {n : Nat} (h : eventTable[n]? = some i) : encode i = eventWord n := by
  have hall : ∀ k < 4, ∀ j ∈ eventTable[k]?, encode j = eventWord k := by decide
  exact hall n (lt_of_eventTable h) i h

/-- The encoder gives each operation its word. -/
theorem Coded.encode_eq {i : Instr} {w : OpWord} (h : Coded i w) : encode i = w := by
  cases h with
  | mode3 m => exact encode_decodeMode3 m
  | in4 v => exact encode_decodeIn4 v
  | uop l => exact encode_uopAt l
  | composite hn => exact encode_of_compositeTable hn
  | event hn => exact encode_of_eventTable hn

/-! ### Which operations have a word -/

theorem decodeMode3_wellFormed (m : BitVec 3) : (decodeMode3 m).WellFormed := by
  revert m; decide

theorem decodeIn4_wellFormed (v : BitVec 4) : (decodeIn4 v).WellFormed := by
  revert v; decide

theorem uopAt_wellFormed (l : Label) : (uopAt l).WellFormed := by
  cases l <;> rfl

theorem compositeTable_wellFormed : ∀ i ∈ compositeTable, i.WellFormed := by decide

theorem eventTable_wellFormed : ∀ i ∈ eventTable, i.WellFormed := by decide

theorem Coded.wellFormed {i : Instr} {w : OpWord} (h : Coded i w) : i.WellFormed := by
  cases h with
  | mode3 m => exact decodeMode3_wellFormed m
  | in4 v => exact decodeIn4_wellFormed v
  | uop l => exact uopAt_wellFormed l
  | composite hn => exact compositeTable_wellFormed i (List.mem_of_getElem? hn)
  | event hn => exact eventTable_wellFormed i (List.mem_of_getElem? hn)

/-- The pairs of a pattern of R74 and the row it selects, whatever the bits it does not examine. -/
theorem decodeIn4_alarmTemp (sw : BitVec 2) : decodeIn4 (sw ++ (0b00#2 : BitVec 2)) = .candAlarmTemp sw := by
  revert sw; decide

theorem decodeIn4_alarmReflection (sw : BitVec 2) :
    decodeIn4 (sw ++ (0b01#2 : BitVec 2)) = .candAlarmReflection sw := by
  revert sw; decide

theorem decodeIn4_alarmMo (sw : BitVec 2) : decodeIn4 (sw ++ (0b11#2 : BitVec 2)) = .candAlarmMo sw := by
  revert sw; decide

theorem decodeIn4_on (sw2 : Level) : decodeIn4 (sw2 ++ (0b010#3 : BitVec 3)) = .candOn sw2 := by
  revert sw2; decide

/-- A well-formed micro-op is the one that stands at some label (40_mode_state_machine.md R90); where it carries a label, at
that one. -/
theorem exists_uopAt_eq {i : Instr} (hu : isUop i = true) (hw : i.WellFormed) : ∃ l, uopAt l = i := by
  cases i with
  | sample => exact ⟨.cSample, rfl⟩
  | decide => exact ⟨.cDecide, rfl⟩
  | setLed => exact ⟨.nSetLed, rfl⟩
  | wait5ms => exact ⟨.sWait, rfl⟩
  | commit => exact ⟨.cCommit, rfl⟩
  | dispatch => exact ⟨.cDispatch, rfl⟩
  | loop => exact ⟨.cLoop, rfl⟩
  | loadRate => exact ⟨.fLoadRate, rfl⟩
  | dispRate => exact ⟨.fDispRate, rfl⟩
  | flashStart => exact ⟨.aFlashStart, rfl⟩
  | clrDisplay => exact ⟨.aClrDisplay, rfl⟩
  | setAlarmState => exact ⟨.aSetAlarmState, rfl⟩
  | setMo l | setOn l | clrOn l | clrMo l | clrGate l | clrLed l | wait1ms l | loadPower l | dispPower l =>
    exact ⟨l, by revert hw; cases l <;> decide⟩
  | _ => cases hu

theorem coded_shutdownSeq {l : Label} (hw : (Instr.shutdownSeq l).WellFormed) : ∃ w, Coded (.shutdownSeq l) w := by
  obtain (rfl | rfl) | rfl : (l = .iClrGate ∨ l = .fClrGate) ∨ l = .aClrGate := by
    simpa [Instr.WellFormed, Instr.wellFormed] using hw
  · exact ⟨_, .composite (n := 2) rfl⟩
  · exact ⟨_, .composite (n := 3) rfl⟩
  · exact ⟨_, .composite (n := 4) rfl⟩

theorem coded_powerEncode {l : Label} (hw : (Instr.powerEncode l).WellFormed) : ∃ w, Coded (.powerEncode l) w := by
  obtain rfl | rfl : l = .nLoadPower ∨ l = .iLoadPower := by
    simpa [Instr.WellFormed, Instr.wellFormed] using hw
  · exact ⟨_, .composite (n := 5) rfl⟩
  · exact ⟨_, .composite (n := 6) rfl⟩

theorem exists_coded_of_mode3 {i : Instr} {m : BitVec 3} (h : decodeMode3 m = i) : ∃ w, Coded i w :=
  ⟨_, h ▸ Coded.mode3 m⟩

theorem exists_coded_of_in4 {i : Instr} {v : BitVec 4} (h : decodeIn4 v = i) : ∃ w, Coded i w :=
  ⟨_, h ▸ Coded.in4 v⟩

/-- Every well-formed operation has a word. -/
theorem exists_coded {i : Instr} (hw : i.WellFormed) : ∃ w, Coded i w := by
  cases hu : isUop i
  case true =>
    obtain ⟨l, rfl⟩ := exists_uopAt_eq hu hw
    exact ⟨_, .uop l⟩
  case false =>
    cases i with
    | runOn => exact exists_coded_of_mode3 (m := 0b000#3) rfl
    | runIdle => exact exists_coded_of_mode3 (m := 0b001#3) rfl
    | runOffSetRate => exact exists_coded_of_mode3 (m := 0b010#3) rfl
    | runAlarmTemp => exact exists_coded_of_mode3 (m := 0b011#3) rfl
    | runAlarmReflection => exact exists_coded_of_mode3 (m := 0b100#3) rfl
    | runAlarmMo => exact exists_coded_of_mode3 (m := 0b101#3) rfl
    | runAlarmReserved x => exact exists_coded_of_mode3 (decodeMode3_reserved x)
    | candAlarmTemp sw => exact exists_coded_of_in4 (decodeIn4_alarmTemp sw)
    | candAlarmReflection sw => exact exists_coded_of_in4 (decodeIn4_alarmReflection sw)
    | candAlarmMo sw => exact exists_coded_of_in4 (decodeIn4_alarmMo sw)
    | candOn sw2 => exact exists_coded_of_in4 (decodeIn4_on sw2)
    | candOffSetRate => exact exists_coded_of_in4 (v := 0b0110#4) rfl
    | candIdle => exact exists_coded_of_in4 (v := 0b1110#4) rfl
    | nextMode => exact ⟨_, .composite (n := 0) rfl⟩
    | startupSeq => exact ⟨_, .composite (n := 1) rfl⟩
    | shutdownSeq l => exact coded_shutdownSeq hw
    | powerEncode l => exact coded_powerEncode hw
    | rateEncode => exact ⟨_, .composite (n := 7) rfl⟩
    | alarmAction => exact ⟨_, .composite (n := 8) rfl⟩
    | controlCycle => exact ⟨_, .composite (n := 9) rfl⟩
    | pulseTick => exact ⟨_, .event (n := 0) rfl⟩
    | flashTick => exact ⟨_, .event (n := 1) rfl⟩
    | advance => exact ⟨_, .event (n := 2) rfl⟩
    | reset => exact ⟨_, .event (n := 3) rfl⟩
    | _ => cases hu

/-- The word the encoder gives a well-formed operation decodes to it. -/
theorem decodeWord_encode {i : Instr} (hw : i.WellFormed) : decodeWord (encode i) = .ok i := by
  obtain ⟨w, hcoded⟩ := exists_coded hw
  rw [hcoded.encode_eq]
  exact hcoded.decodeWord_eq

/-! ### The candidate of each pattern (40_mode_state_machine.md R92, R93 to R98) -/

/-- The six rows of the table of R74 cover the values of `samp`, each with the candidate of its values. -/
theorem in4_rows (v : BitVec 4) :
    (∃ sw, decodeIn4 v = .candAlarmTemp sw ∧ candidate v = 3#3) ∨
    (∃ sw, decodeIn4 v = .candAlarmReflection sw ∧ candidate v = 4#3) ∨
    (∃ sw, decodeIn4 v = .candAlarmMo sw ∧ candidate v = 5#3) ∨
    (∃ sw2, decodeIn4 v = .candOn sw2 ∧ candidate v = 0#3) ∨
    (decodeIn4 v = .candOffSetRate ∧ candidate v = 2#3) ∨
    (decodeIn4 v = .candIdle ∧ candidate v = 1#3) := by
  revert v; decide

/-- Each IN4 row, performed in any state, puts the candidate of its value on the wire. -/
theorem exec_decodeIn4 (v : BitVec 4) (s : State) : exec (decodeIn4 v) s = .next { s with cand := candidate v } := by
  obtain ⟨sw, hrow, hcand⟩ | ⟨sw, hrow, hcand⟩ | ⟨sw, hrow, hcand⟩ | ⟨sw2, hrow, hcand⟩ | ⟨hrow, hcand⟩ |
    ⟨hrow, hcand⟩ := in4_rows v
  all_goals rw [hrow, hcand]; rfl

end Sys2Proof.Machine

namespace Sys2Proof.Proofs

open Sys2Proof.Machine

/-- Settles O1: every well-formed operation has a word, which the encoder gives and the decoder reads. -/
theorem decodeOfEncodeIsIdentity : Obligations.DecodeOfEncodeIsIdentity := by
  unfold Obligations.DecodeOfEncodeIsIdentity
  intro i hw
  have hword := decodeWord_encode hw
  refine ⟨hword, ?_⟩
  rw [decode_wordBytes, hword]
  rfl

/-- Settles O2: a word that decodes is the one word of its operation, unless it is one of those of log 5. -/
theorem decodedWordsReencode : Obligations.DecodedWordsReencode := by
  unfold Obligations.DecodedWordsReencode
  intro w i h
  obtain hcoded | ⟨hlow, hhigh, v, rfl⟩ := coded_of_decodeWord h
  · exact ⟨hcoded.wellFormed, .inl hcoded.encode_eq⟩
  · exact ⟨decodeIn4_wellFormed v, .inr ⟨hlow, hhigh⟩⟩

/-- Settles O3: eight closed words, decoded. -/
theorem writtenWordsDecode : Obligations.WrittenWordsDecode := by
  unfold Obligations.WrittenWordsDecode
  decide

/-- Settles O5: the patterns are tried on the 16 values of `samp`; performing a row is `exec_decodeIn4`. -/
theorem in4PatternsGiveTheCandidate : Obligations.In4PatternsGiveTheCandidate := by
  unfold Obligations.In4PatternsGiveTheCandidate
  refine ⟨?partition, fun sw => ?alarms, fun sw2 => ?on, rfl, rfl, rfl, rfl, exec_decodeIn4⟩
  case partition => decide
  case alarms =>
    refine ⟨decodeIn4_alarmTemp sw, ?_, decodeIn4_alarmReflection sw, ?_, decodeIn4_alarmMo sw, ?_⟩
    all_goals revert sw; decide
  case on => exact ⟨decodeIn4_on sw2, by revert sw2; decide⟩

/-- Settles O12: the meaning of each row is written so. -/
theorem candidateRowsGiveTheirMode : Obligations.CandidateRowsGiveTheirMode := by
  unfold Obligations.CandidateRowsGiveTheirMode
  exact fun _ _ _ => ⟨rfl, rfl, rfl, rfl, rfl, rfl⟩

end Sys2Proof.Proofs

/-! ## Proofs: single steps (20_memory.md R58, R60; log 1, 4, 6)

What `step` does with the head of the agenda, when it is enabled. -/

namespace Sys2Proof.Machine

theorem resetHeld_eq_true_iff (s : State) : resetHeld s = true ↔ s.inp.rst = 1#1 := by
  rw [resetHeld, beq_iff_eq]

theorem pulseDue_eq_true_iff (s : State) : pulseDue s = true ↔ s.ppgCnt = 0 := by
  rw [pulseDue, beq_iff_eq]

theorem flashDue_eq_true_iff (s : State) : flashDue s = true ↔ s.aflRun = 1#1 ∧ s.aflCnt = 0 := by
  rw [flashDue, Bool.and_eq_true, beq_iff_eq, beq_iff_eq]

/-- An enabled step at the head of the agenda is the one taken. -/
theorem step_of_enabled {s : State} {a : Act} {rest : List Directive} (hag : s.agenda = .act a :: rest)
    (ha : enabled a s = true) : step s = perform a { s with agenda := rest } := by
  rw [step_of_agenda_act hag, stepAct, if_pos ha]

theorem perform_input (c : InputChange) (s : State) :
    perform (.input c) s = .next { s with inp := changeInputs c s.inp } := rfl

/-- With RST low an operation word at the head of the agenda is performed as a whole. -/
theorem step_of_agenda_word {s : State} {w : OpWord} {rest : List Directive} {i : Instr} {after : List Byte}
    (hag : s.agenda = .word w :: rest) (hheld : resetHeld s = false) (hdec : decode (wordBytes w) = .ok (i, after)) :
    step s = exec i { s with agenda := rest } := by
  have hword : step s = stepWord w rest s := by rw [step, hag]
  rw [hword, stepWord, hheld, if_neg Bool.false_ne_true, hdec]

/-- What the enabling conditions of R60 say of the registers while RST is low. -/
theorem enabled_of_rst_low {s : State} (hheld : resetHeld s = false) :
    (enabled .seq s = true ↔ s.seqHold = 0) ∧
    (enabled .pulseTick s = true ↔ s.ppgCnt = 0) ∧
    (enabled .flashTick s = true ↔ s.aflRun = 1#1 ∧ s.aflCnt = 0) ∧
    (enabled .advance s = true ↔ 0 < s.ppgCnt ∧ (s.aflRun = 0#1 ∨ 0 < s.aflCnt)) ∧
    (∀ c, enabled (.input c) s = true) ∧ enabled .reset s = true := by
  refine ⟨?seq, ?pulse, ?flash, ?advance, fun c => ?input, rfl⟩
  case seq => rw [enabled_seq_iff, and_iff_right hheld]
  case pulse => rw [enabled, hheld, ← pulseDue_eq_true_iff]; rfl
  case flash => rw [enabled, hheld, ← flashDue_eq_true_iff]; rfl
  case advance => rw [enabled_advance_iff, and_iff_right hheld, timerDue_eq_false_iff]
  case input => rw [enabled, hheld]; rfl

theorem exec_loadRate (s : State) :
    exec .loadRate s = .next
      { s with rateR := s.inp.dial, ppgCnt := halfTicks s.inp.dial, seqHold := 1, seqPc := .fDispRate } := rfl

theorem exec_setAlarmState (s : State) : exec .setAlarmState s = .next (doAlarmLabel (alarmLabel s.mode) s) := rfl

theorem doAlarmLabel_some (v : BitVec 3) (s : State) :
    doAlarmLabel (some v) s = { s with alarmState := v, seqHold := 1, seqPc := .cLoop } := rfl

theorem doAlarmLabel_none (s : State) :
    doAlarmLabel none s =
      { s with alarmState := Config.freeLabel s.draws, draws := s.draws + 1, seqHold := 1, seqPc := .cLoop } := rfl

/-- The labels of 44_alarm_actions.md R157. -/
theorem alarmLabel_of_mem {m v : BitVec 3} (h : (m, v) ∈ [(3#3, 1#3), (4#3, 2#3), (5#3, 3#3), (6#3, 4#3), (7#3, 4#3)]) :
    alarmLabel m = some v := by
  revert m v; decide

theorem alarmLabel_of_lt {m : BitVec 3} (h : m.toNat < 3) : alarmLabel m = none := by
  revert m; decide

/-! ### Reset -/

/-- The registers without a reset value in the spec get the values of log 8, 9 and 10. -/
theorem doReset_eq (s : State) : doReset s = resetValues 0#4 0 3#3 s := rfl

theorem resetValues_of_atReset {s : State} (h : atReset s = true) : s = resetValues 0#4 0 3#3 s := by
  rw [← doReset_eq]
  exact ((atReset_iff s).mp h).symm

/-- While RST is high RESET alone is enabled, and once it has been performed the input changes (log 16). -/
theorem enabled_of_rst_high {s : State} {a : Act} (hheld : resetHeld s = true) (ha : enabled a s = true) :
    a = .reset ∨ ((∃ c, a = .input c) ∧ doReset s = s) := by
  cases a with
  | reset => exact .inl rfl
  | input c =>
    have hreset : atReset s = true := by simpa [enabled, hheld] using ha
    exact .inr ⟨⟨c, rfl⟩, (atReset_iff s).mp hreset⟩
  | seq | pulseTick | flashTick | advance => simp [enabled, hheld] at ha

/-! ### Output ports -/

theorem outputs_of_rst_low {s : State} (hheld : resetHeld s = false) : outputs s = shownLevels s := by
  rw [outputs, hheld, if_neg Bool.false_ne_true]

theorem outputs_of_rst_high {s : State} (hheld : resetHeld s = true) : outputs s = shownLevels (doReset s) := by
  rw [outputs, if_pos hheld]

/-- The de-asserted level of the LASER_EN pin (10_state.md R27). -/
theorem laserEnPin_zero (activeLow : Bool) : laserEnPin activeLow 0#1 = if activeLow then 1#1 else 0#1 := by
  cases activeLow <;> rfl

end Sys2Proof.Machine

namespace Sys2Proof.Proofs

open Sys2Proof.Machine

/-- Settles O6: with RST low the word is decoded at once. -/
theorem stepRunsTheWord : Obligations.StepRunsTheWord := by
  unfold Obligations.StepRunsTheWord
  intro s w rest i hag hrst hdec
  exact step_of_agenda_word hag ((resetHeld_eq_false_iff s).mpr hrst) hdec

/-- Settles O7: SEQ is enabled, so the step asked for is its micro-op. -/
theorem stepRunsTheMicroOp : Obligations.StepRunsTheMicroOp := by
  unfold Obligations.StepRunsTheMicroOp
  intro s rest hag hrst hhold
  have hseq : enabled .seq s = true := (enabled_seq_iff s).mpr ⟨(resetHeld_eq_false_iff s).mpr hrst, hhold⟩
  exact ⟨decodeWord_uopWord s.seqPc, step_of_enabled hag hseq⟩

/-- Settles O8: the table of R60 and what an input change does, and the step asked for is the one taken. -/
theorem enabledStepsAreTaken : Obligations.EnabledStepsAreTaken := by
  unfold Obligations.EnabledStepsAreTaken
  refine ⟨fun s hrst => enabled_of_rst_low ((resetHeld_eq_false_iff s).mpr hrst), fun s c => perform_input c s, ?taken⟩
  case taken =>
    intro s a ha rest
    have henabled : enabled a { s with agenda := .act a :: rest } = true :=
      (enabled_bookkeeping a s _ s.draws s.patience).trans ha
    exact step_of_enabled rfl henabled

/-- Settles O22: the new half-period replaces the interval in progress. -/
theorem loadRateRestartsTheInterval : Obligations.LoadRateRestartsTheInterval := by
  unfold Obligations.LoadRateRestartsTheInterval
  exact exec_loadRate

/-- Settles O25: the modes with a label by the table of R157; for the others the value written is the next free one. -/
theorem setAlarmStateWritesTheLabel : Obligations.SetAlarmStateWritesTheLabel := by
  unfold Obligations.SetAlarmStateWritesTheLabel
  refine ⟨fun s v hrow => ?_, fun s hmode => ⟨Config.freeLabel s.draws, ?_⟩⟩
  · rw [exec_setAlarmState, alarmLabel_of_mem hrow, doAlarmLabel_some]
  · rw [exec_setAlarmState, alarmLabel_of_lt hmode, doAlarmLabel_none]

/-- Settles O29: RESET writes the reset values, and a step taken while RST is high leaves what a RESET leaves. -/
theorem resetSetsEveryRegister : Obligations.ResetSetsEveryRegister := by
  unfold Obligations.ResetSetsEveryRegister
  refine ⟨fun s => ⟨0#4, 0, 3#3, ?_⟩, fun _ => rfl, fun s a hrst ha => ?_, fun s t hrun hrst hstep => ⟨0#4, 0, 3#3, ?_⟩⟩
  · rw [exec_reset, doReset_eq]
  · obtain hreset | ⟨hinput, hsame⟩ := enabled_of_rst_high ((resetHeld_eq_true_iff s).mpr hrst) ha
    · exact .inl hreset
    · exact .inr ⟨hinput, by rw [exec_reset, hsame]⟩
  · exact resetValues_of_atReset (step_resetHeld hrun hrst hstep)

/-- Settles O60: RST selects between the registers and their reset values. -/
theorem outputPortsShowTheRegisters : Obligations.OutputPortsShowTheRegisters := by
  unfold Obligations.OutputPortsShowTheRegisters
  refine fun s => ⟨fun hrst => ?low, fun hrst => ?high⟩
  case low =>
    rw [outputs_of_rst_low ((resetHeld_eq_false_iff s).mpr hrst)]
    exact ⟨rfl, rfl, rfl, rfl, rfl, rfl, rfl, rfl, rfl, rfl, rfl⟩
  case high =>
    rw [outputs_of_rst_high ((resetHeld_eq_true_iff s).mpr hrst), ← laserEnPin_zero]
    rfl

/-- Settles O43: the reset values meet each invariant; the pulse counter by R146, the longest half-period. -/
theorem invariantsMeetAtReset : Obligations.InvariantsMeetAtReset := by
  unfold Obligations.InvariantsMeetAtReset
  have hcounters : countersInRange State.reset :=
    ⟨halfTicks_le_longest _, fun h => absurd h (by decide), Nat.zero_le _⟩
  have hinterlock : interlock State.reset := by decide
  have hmode : modeLegal State.reset := by decide
  have hgate : gateFromReset State.reset := ⟨id, fun h => absurd h (by decide)⟩
  exact ⟨rfl, powerMirror_reset, hcounters, hinterlock, hmode, hgate⟩

end Sys2Proof.Proofs

/-! ## Proofs: what the micro-ops can do to the registers, and the invariants of every step (10_state.md R25, R31)

The last act of the alarm action and FLASH_START are the two micro-ops with a case split, so each is written as one update
first. -/

namespace Sys2Proof.Machine

/-- What no micro-op writes: the outputs of the timers, the guide beam, the input levels, the clock, and the model's own
fields but for the count of free values drawn. -/
def sameOutsideSeq (s t : State) : Prop :=
  t.guideN = s.guideN ∧ t.pulse = s.pulse ∧ t.laserEn = s.laserEn ∧ t.inp = s.inp ∧ t.now = s.now ∧
  t.agenda = s.agenda ∧ t.env = s.env ∧ t.patience = s.patience

/-- With any label the last act of the alarm action writes `alarm_state`, and draws a free value or none. -/
theorem doAlarmLabel_eq (label : Option (BitVec 3)) (s : State) :
    ∃ v d, doAlarmLabel label s = retire minDur .cLoop { s with alarmState := v, draws := d } := by
  cases label with
  | some v => exact ⟨v, s.draws, rfl⟩
  | none => exact ⟨_, _, rfl⟩

theorem doFlashStart_eq (s : State) :
    doFlashStart s = retire minDur .aClrDisplay
      { s with aflRun := 1#1, aflCnt := if s.aflRun = 0#1 then oneSecTicks else s.aflCnt } := by
  rw [doFlashStart, startFlasher_eq]

theorem sameOutsideSeq_doAlarmLabel (label : Option (BitVec 3)) (s : State) :
    sameOutsideSeq s (doAlarmLabel label s) := by
  obtain ⟨v, d, e⟩ := doAlarmLabel_eq label s
  rw [e]
  exact ⟨rfl, rfl, rfl, rfl, rfl, rfl, rfl, rfl⟩

theorem MicroOp.sameOutsideSeq {op : State → State} (h : MicroOp op) (s : State) : sameOutsideSeq s (op s) := by
  cases h with
  | flashStart => rw [doFlashStart_eq]; exact ⟨rfl, rfl, rfl, rfl, rfl, rfl, rfl, rfl⟩
  | setAlarmState => exact sameOutsideSeq_doAlarmLabel _ s
  | alarmLabel label => exact sameOutsideSeq_doAlarmLabel label s
  | _ => exact ⟨rfl, rfl, rfl, rfl, rfl, rfl, rfl, rfl⟩

/-- CLR_GATE alone of the micro-ops writes the gate. -/
theorem MicroOp.gate_falls {op : State → State} (h : MicroOp op) (s : State) :
    (op s).gate = s.gate ∨ (op s).gate = 0#1 := by
  have hlabel : ∀ label, (doAlarmLabel label s).gate = s.gate := by
    intro label
    obtain ⟨v, d, e⟩ := doAlarmLabel_eq label s
    rw [e]; rfl
  cases h with
  | clrGate l => exact .inr rfl
  | flashStart => rw [doFlashStart_eq]; exact .inl rfl
  | setAlarmState => exact .inl (hlabel _)
  | alarmLabel label => exact .inl (hlabel label)
  | _ => exact .inl rfl

/-- FLASH_START alone of the micro-ops writes the flasher's flag and its counter, and it reloads the counter only if it
starts the flasher (44_alarm_actions.md R155). -/
theorem MicroOp.flasher {op : State → State} (h : MicroOp op) (s : State) :
    (op s).aflRun = s.aflRun ∧ (op s).aflCnt = s.aflCnt ∨
      s.aflRun = 0#1 ∧ (op s).aflRun = 1#1 ∧ (op s).aflCnt = oneSecTicks := by
  have hlabel : ∀ label, (doAlarmLabel label s).aflRun = s.aflRun ∧ (doAlarmLabel label s).aflCnt = s.aflCnt := by
    intro label
    obtain ⟨v, d, e⟩ := doAlarmLabel_eq label s
    rw [e]; exact ⟨rfl, rfl⟩
  cases h with
  | flashStart =>
    obtain hstopped | hrunning := BitVec.eq_zero_or_eq_one s.aflRun
    · rw [doFlashStart, startFlasher_of_stopped hstopped]; exact .inr ⟨hstopped, rfl, rfl⟩
    · rw [doFlashStart, startFlasher_of_running hrunning]; exact .inl ⟨rfl, rfl⟩
  | setAlarmState => exact .inl (hlabel _)
  | alarmLabel label => exact .inl (hlabel label)
  | _ => exact .inl ⟨rfl, rfl⟩

/-- LOAD_RATE alone of the micro-ops writes the rate and the counter of the pulse, and it writes both
(42_pulse_rate_encoder.md R131). -/
theorem MicroOp.rate {op : State → State} (h : MicroOp op) (s : State) :
    (op s).rateR = s.rateR ∧ (op s).ppgCnt = s.ppgCnt ∨
      (op s).rateR = s.inp.dial ∧ (op s).ppgCnt = halfTicks s.inp.dial := by
  have hlabel : ∀ label, (doAlarmLabel label s).rateR = s.rateR ∧ (doAlarmLabel label s).ppgCnt = s.ppgCnt := by
    intro label
    obtain ⟨v, d, e⟩ := doAlarmLabel_eq label s
    rw [e]; exact ⟨rfl, rfl⟩
  cases h with
  | loadRate => exact .inr ⟨rfl, rfl⟩
  | flashStart => rw [doFlashStart_eq]; exact .inl ⟨rfl, rfl⟩
  | setAlarmState => exact .inl (hlabel _)
  | alarmLabel label => exact .inl (hlabel label)
  | _ => exact .inl ⟨rfl, rfl⟩

/-- No micro-op holds SEQ for longer than WAIT_5MS does (70_reset_and_hazards.md R225). -/
theorem MicroOp.seqHold_le {op : State → State} (h : MicroOp op) (s : State) : (op s).seqHold ≤ wait5Ticks := by
  cases h with
  | wait5ms => exact le_refl wait5Ticks
  | wait1ms l => exact wait1Ticks_le_wait5Ticks
  | _ => exact one_le_wait5Ticks

/-! ### The counters (10_state.md R31; 70_reset_and_hazards.md R218) -/

theorem MicroOp.countersInRange {op : State → State} (h : MicroOp op) {s : State} (hs : countersInRange s) :
    countersInRange (op s) := by
  obtain ⟨hpulse, hflash, -⟩ := hs
  refine ⟨?_, fun hrun => ?_, h.seqHold_le s⟩
  · obtain ⟨-, e⟩ | ⟨-, e⟩ := h.rate s
    · rw [e]; exact hpulse
    · rw [e]; exact halfTicks_le_longest _
  · obtain ⟨erun, ecnt⟩ | ⟨-, -, ecnt⟩ := h.flasher s
    · rw [ecnt]; exact hflash (erun ▸ hrun)
    · exact ecnt.le

theorem passTick_countersInRange {s : State} (hs : countersInRange s) : countersInRange (passTick s) := by
  obtain ⟨hpulse, hflash, hhold⟩ := hs
  refine ⟨(Nat.sub_le _ _).trans hpulse, fun hrun => ?_, (Nat.sub_le _ _).trans hhold⟩
  rw [passTick_aflRun] at hrun
  rw [passTick_aflCnt, if_pos hrun]
  exact (Nat.sub_le _ _).trans (hflash hrun)

theorem countersInRange_keptByParts : KeptByParts countersInRange where
  microOp ho _ h := ho.countersInRange h
  pulseTick s h := ⟨halfTicks_le_longest s.rateR, h.2⟩
  flashTick _ h := ⟨h.1, fun _ => le_refl _, h.2.2⟩
  passTick _ h := passTick_countersInRange h
  reset _ _ := ⟨halfTicks_le_longest _, fun hrun => absurd hrun (by simp), Nat.zero_le _⟩
  inputs _ _ _ h := h
  candidate _ _ h := h
  bookkeeping _ _ _ _ h := h

/-! ### The gate and laser-enable (10_state.md R25; 70_reset_and_hazards.md R207) -/

theorem laserEnOf_eq_one {gate : Level} (h : laserEnOf gate = 1#1) : gate = 1#1 := by
  revert gate; decide

theorem MicroOp.gateFromReset {op : State → State} (h : MicroOp op) {s : State} (hs : gateFromReset s) :
    gateFromReset (op s) := by
  obtain ⟨hgate, hlaser⟩ := hs
  obtain ⟨-, -, elaser, -⟩ := h.sameOutsideSeq s
  refine ⟨fun hset => ?_, fun hon => hlaser (elaser ▸ hon)⟩
  obtain e | e := h.gate_falls s
  · exact hgate (e ▸ hset)
  · exact absurd (e.symm.trans hset) (by decide)

theorem gateFromReset_keptByParts : KeptByParts gateFromReset where
  microOp ho _ h := ho.gateFromReset h
  pulseTick _ h := ⟨h.1, fun hon => h.1 (laserEnOf_eq_one hon)⟩
  flashTick _ h := h
  passTick _ h := h
  reset _ _ := ⟨id, fun hon => absurd hon (by simp)⟩
  inputs _ _ _ h := h
  candidate _ _ h := h
  bookkeeping _ _ _ _ h := h

end Sys2Proof.Machine

namespace Sys2Proof.Proofs

open Sys2Proof.Machine

/-- Settles O45: every write of a counter reloads it within its range, and time only counts down. -/
theorem stepKeepsTheCountersInRange : Obligations.StepKeepsTheCountersInRange := by
  unfold Obligations.StepKeepsTheCountersInRange
  exact fun _ _ h e => countersInRange_keptByParts.step h e

/-- Settles O48: only RESET sets the gate, to GATE_RESET, and PULSE_TICK copies the gate to laser-enable. -/
theorem stepKeepsTheGateFromReset : Obligations.StepKeepsTheGateFromReset := by
  unfold Obligations.StepKeepsTheGateFromReset
  exact fun _ _ h e => gateFromReset_keptByParts.step h e

end Sys2Proof.Proofs

/-! ## Proofs: the steps of a run, said once (20_memory.md R58, R59), and the invariants they keep

`actAt l` is the act of the micro-op at the label `l`. `RunStep` lists what a step of a run can do, the micro-op being the one
at SEQ's own label; so facts about the position of SEQ can be used. -/

namespace Sys2Proof.Machine

/-- The act of the micro-op at each label (40_mode_state_machine.md R90). -/
def actAt : Label → State → State
  | .cSample => doSample
  | .cDecide => doDecide
  | .sSetMo => doSetMo .sSetMo
  | .sWait => doWait5ms
  | .sSetOn => doSetOn .sSetOn
  | .cCommit => doCommit
  | .cDispatch => doDispatch
  | .nSetMo => doSetMo .nSetMo
  | .nSetOn => doSetOn .nSetOn
  | .nLoadPower => doLoadPower .nLoadPower
  | .nDispPower => doDispPower .nDispPower
  | .nSetLed => doSetLed
  | .iClrGate => doClrGate .iClrGate
  | .iClrOn => doClrOn .iClrOn
  | .iWait => doWait1ms .iWait
  | .iClrMo => doClrMo .iClrMo
  | .iLoadPower => doLoadPower .iLoadPower
  | .iDispPower => doDispPower .iDispPower
  | .iClrLed => doClrLed .iClrLed
  | .fClrGate => doClrGate .fClrGate
  | .fClrOn => doClrOn .fClrOn
  | .fWait => doWait1ms .fWait
  | .fClrMo => doClrMo .fClrMo
  | .fLoadRate => doLoadRate
  | .fDispRate => doDispRate
  | .fClrLed => doClrLed .fClrLed
  | .aFlashStart => doFlashStart
  | .aClrDisplay => doClrDisplay
  | .aClrGate => doClrGate .aClrGate
  | .aClrOn => doClrOn .aClrOn
  | .aWait => doWait1ms .aWait
  | .aClrMo => doClrMo .aClrMo
  | .aSetAlarmState => doSetAlarmState
  | .cLoop => doLoop

theorem exec_uopAt (l : Label) (s : State) : exec (uopAt l) s = .next (actAt l s) := by
  cases l <;> rfl

theorem actAt_microOp : ∀ l : Label, MicroOp (actAt l)
  | .cSample => .sample
  | .cDecide => .decide
  | .sSetMo => .setMo .sSetMo
  | .sWait => .wait5ms
  | .sSetOn => .setOn .sSetOn
  | .cCommit => .commit
  | .cDispatch => .dispatch
  | .nSetMo => .setMo .nSetMo
  | .nSetOn => .setOn .nSetOn
  | .nLoadPower => .loadPower .nLoadPower
  | .nDispPower => .dispPower .nDispPower
  | .nSetLed => .setLed
  | .iClrGate => .clrGate .iClrGate
  | .iClrOn => .clrOn .iClrOn
  | .iWait => .wait1ms .iWait
  | .iClrMo => .clrMo .iClrMo
  | .iLoadPower => .loadPower .iLoadPower
  | .iDispPower => .dispPower .iDispPower
  | .iClrLed => .clrLed .iClrLed
  | .fClrGate => .clrGate .fClrGate
  | .fClrOn => .clrOn .fClrOn
  | .fWait => .wait1ms .fWait
  | .fClrMo => .clrMo .fClrMo
  | .fLoadRate => .loadRate
  | .fDispRate => .dispRate
  | .fClrLed => .clrLed .fClrLed
  | .aFlashStart => .flashStart
  | .aClrDisplay => .clrDisplay
  | .aClrGate => .clrGate .aClrGate
  | .aClrOn => .clrOn .aClrOn
  | .aWait => .wait1ms .aWait
  | .aClrMo => .clrMo .aClrMo
  | .aSetAlarmState => .setAlarmState
  | .cLoop => .loop

/-- What one step of a run does in the state it is taken in. -/
inductive RunStep (s : State) : State → Prop where
  | seq (h : s.seqHold = 0) : RunStep s (actAt s.seqPc s)
  | pulseTick (h : pulseDue s = true) : RunStep s (doPulseTick s)
  | flashTick (h : flashDue s = true) : RunStep s (doFlashTick s)
  | advance (h : timerDue s = false) : RunStep s (passTick s)
  | reset : RunStep s (doReset s)
  | input (c : InputChange) : RunStep s { s with inp := changeInputs c s.inp }

theorem perform_seq (s : State) : perform .seq s = .next (actAt s.seqPc s) := exec_uopAt s.seqPc s

/-- Performing an enabled act is a step of a run. -/
theorem perform_runStep {a : Act} {s t : State} (ha : enabled a s = true) (h : perform a s = .next t) : RunStep s t := by
  cases a with
  | seq =>
    obtain rfl : actAt s.seqPc s = t := by simpa [perform_seq] using h
    exact .seq ((enabled_seq_iff s).mp ha).2
  | pulseTick =>
    cases h
    exact .pulseTick (Bool.and_eq_true_iff.mp ha).2
  | flashTick =>
    cases h
    exact .flashTick (Bool.and_eq_true_iff.mp ha).2
  | advance =>
    obtain ⟨-, hdue⟩ := (enabled_advance_iff s).mp ha
    rw [perform, exec_advance_of_not_timerDue hdue] at h
    cases h
    exact .advance hdue
  | reset => cases h; exact .reset
  | input c => cases h; exact .input c

/-- Every step of a run is one of these; it is taken in a state that differs from `s` in the model's own bookkeeping alone. -/
theorem step_runStep {s t : State} (ho : onlyActs s = true) (h : step s = .next t) :
    ∃ (ag : List Directive) (d p : Nat), RunStep { s with agenda := ag, draws := d, patience := p } t ∧
      onlyActs { s with agenda := ag, draws := d, patience := p } = true := by
  obtain ⟨a, ag, d, p, ha, hperform, hacts⟩ := step_cases ho h
  rw [← enabled_bookkeeping a s ag d p] at ha
  exact ⟨ag, d, p, perform_runStep ha hperform, hacts⟩

theorem RunStep.agenda {s t : State} (h : RunStep s t) : t.agenda = s.agenda := by
  cases h with
  | seq h =>
    obtain ⟨-, -, -, -, -, hagenda, -⟩ := (actAt_microOp s.seqPc).sameOutsideSeq s
    exact hagenda
  | _ => rfl

/-- The induction of every invariant of runs. -/
theorem runStep_induction {P : State → Prop}
    (hbook : ∀ s ag d p, P s → P { s with agenda := ag, draws := d, patience := p })
    (hstep : ∀ s t, P s → RunStep s t → P t) {s t : State} (ho : onlyActs s = true) (h : P s) (e : step s = .next t) :
    onlyActs t = true ∧ P t := by
  obtain ⟨ag, d, p, hrun, hacts⟩ := step_runStep ho e
  refine ⟨?_, hstep _ _ (hbook s ag d p h) hrun⟩
  rw [onlyActs, hrun.agenda]
  exact hacts

/-! ### What the micro-op at a label does to the position, the enables, the mode and the alarm label -/

/-- The labels that begin a block to which DECIDE or DISPATCH branches. -/
def branchTarget (l : Label) : Bool := l == .sSetMo || l == .nSetMo || l == .iClrGate || l == .fClrGate

theorem actionEntry_cases (mode : BitVec 3) :
    actionEntry mode = succLabel .cDispatch ∨ branchTarget (actionEntry mode) = true := by
  revert mode; decide

/-- SEQ goes to the successor of its label, but where DECIDE and DISPATCH branch. -/
theorem actAt_seqPc (l : Label) (s : State) :
    (actAt l s).seqPc = succLabel l ∨ branchTarget (actAt l s).seqPc = true := by
  cases l with
  | cDecide =>
    have hpc : (actAt .cDecide s).seqPc = if startSeq (candidate s.samp) s.mode then .sSetMo else .cCommit := rfl
    rw [hpc]
    split
    · exact .inr rfl
    · exact .inl rfl
  | cDispatch => exact actionEntry_cases s.mode
  | _ => exact .inl rfl

theorem actAt_now (l : Label) (s : State) : (actAt l s).now = s.now := by
  obtain ⟨-, -, -, -, hnow, -⟩ := (actAt_microOp l).sameOutsideSeq s
  exact hnow

theorem actAt_seqHold (l : Label) (s : State) : (actAt l s).seqHold = minDurAt l :=
  exec_uopAt_seqHold (exec_uopAt l s)

/-- The labels of SET_MO. -/
def atSetMo (l : Label) : Bool := l == .sSetMo || l == .nSetMo

/-- The labels of SET_ON. -/
def atSetOn (l : Label) : Bool := l == .sSetOn || l == .nSetOn

/-- The labels of CLR_ON. -/
def atClrOn (l : Label) : Bool := l == .iClrOn || l == .fClrOn || l == .aClrOn

/-- The writes of MO-enable. -/
theorem actAt_moEnN (l : Label) (s : State) :
    (actAt l s).moEnN = if atSetMo l then 0#1 else if atClrMo l then 1#1 else s.moEnN := by
  cases l with
  | aFlashStart => rw [actAt, doFlashStart_eq]; rfl
  | aSetAlarmState =>
    obtain ⟨v, d, e⟩ := doAlarmLabel_eq (alarmLabel s.mode) s
    rw [actAt, doSetAlarmState, e]; rfl
  | _ => rfl

/-- The writes of ON-enable. -/
theorem actAt_onEnN (l : Label) (s : State) :
    (actAt l s).onEnN = if atSetOn l then 0#1 else if atClrOn l then 1#1 else s.onEnN := by
  cases l with
  | aFlashStart => rw [actAt, doFlashStart_eq]; rfl
  | aSetAlarmState =>
    obtain ⟨v, d, e⟩ := doAlarmLabel_eq (alarmLabel s.mode) s
    rw [actAt, doSetAlarmState, e]; rfl
  | _ => rfl

/-- The one write of `mode`. -/
theorem actAt_mode (l : Label) (s : State) : (actAt l s).mode = if l = .cCommit then candidate s.samp else s.mode := by
  cases l with
  | aFlashStart => rw [actAt, doFlashStart_eq]; rfl
  | aSetAlarmState =>
    obtain ⟨v, d, e⟩ := doAlarmLabel_eq (alarmLabel s.mode) s
    rw [actAt, doSetAlarmState, e]; rfl
  | _ => rfl

/-- The one write of `alarm_state`. -/
theorem actAt_alarmState_of_ne {l : Label} (h : l ≠ .aSetAlarmState) (s : State) :
    (actAt l s).alarmState = s.alarmState := by
  cases l with
  | aFlashStart => rw [actAt, doFlashStart_eq]; rfl
  | aSetAlarmState => exact absurd rfl h
  | _ => rfl

end Sys2Proof.Machine

/-! ## Proofs: the interlock, the mode at each label, and the clocks of the two sequences (10_state.md R37;
70_reset_and_hazards.md R204) -/

namespace Sys2Proof.Machine

/-! ### The interlock (R204 item 1) -/

/-- A property of labels that holds at no branch target is found only at the successor of SEQ's label. -/
theorem actAt_seqPc_of_not_branchTarget {p : Label → Bool} (hp : ∀ l, branchTarget l = true → p l = false) {l : Label}
    {s : State} (h : p (actAt l s).seqPc = true) : (actAt l s).seqPc = succLabel l := by
  obtain e | hbranch := actAt_seqPc l s
  · exact e
  · rw [hp _ hbranch] at h; cases h

theorem not_moAssertedAt_of_branchTarget (l : Label) (h : branchTarget l = true) : moAssertedAt l = false := by
  revert h; cases l <;> decide

theorem not_onClearedAt_of_branchTarget (l : Label) (h : branchTarget l = true) : onClearedAt l = false := by
  revert h; cases l <;> decide

/-- MO-enable is asserted after SET_MO and stays so up to the SET_ON. -/
theorem moAssertedAt_succLabel {l : Label} (h : moAssertedAt (succLabel l) = true) :
    atSetMo l = true ∨ (moAssertedAt l = true ∧ atClrMo l = false) := by
  revert h; cases l <;> decide

/-- ON-enable is de-asserted after CLR_ON and stays so up to the CLR_MO. -/
theorem onClearedAt_succLabel {l : Label} (h : onClearedAt (succLabel l) = true) :
    atSetOn l = false ∧ (atClrOn l = true ∨ onClearedAt l = true) := by
  revert h; cases l <;> decide

/-- At a SET_ON the MO-enable is asserted, and is not taken back. -/
theorem atSetOn_places {l : Label} (h : atSetOn l = true) : moAssertedAt l = true ∧ atClrMo l = false := by
  revert h; cases l <;> decide

theorem onClearedAt_of_atClrMo {l : Label} (h : atClrMo l = true) : onClearedAt l = true := by
  revert h; cases l <;> decide

/-- An asserted MO-enable stays asserted but for a CLR_MO. -/
theorem actAt_moEnN_asserted {l : Label} {s : State} (h : s.moEnN = 0#1) (hclr : atClrMo l = false) :
    (actAt l s).moEnN = 0#1 := by
  simp [actAt_moEnN, hclr, h]

/-- ON-enable asserted after a micro-op was asserted before, or the micro-op is a SET_ON. -/
theorem onEnN_of_actAt_asserted {l : Label} {s : State} (h : (actAt l s).onEnN = 0#1) :
    atSetOn l = true ∨ s.onEnN = 0#1 := by
  rw [actAt_onEnN] at h
  cases hset : atSetOn l
  case true => exact .inl rfl
  case false =>
    rw [hset, if_neg Bool.false_ne_true] at h
    split at h
    · exact absurd h (by decide)
    · exact .inr h

theorem actAt_interlock {s : State} (h : interlock s) : interlock (actAt s.seqPc s) := by
  obtain ⟨hlock, hmo, hon⟩ := h
  refine ⟨fun hasserted => ?lock, fun hat => ?mo, fun hat => ?on⟩
  case lock =>
    obtain hset | hbefore := onEnN_of_actAt_asserted hasserted
    · obtain ⟨hat, hclr⟩ := atSetOn_places hset
      exact actAt_moEnN_asserted (hmo hat) hclr
    · refine actAt_moEnN_asserted (hlock hbefore) (Bool.eq_false_iff.mpr fun hclr => ?_)
      have hoff := hon (onClearedAt_of_atClrMo hclr)
      exact absurd (hbefore.symm.trans hoff) (by decide)
  case mo =>
    rw [actAt_seqPc_of_not_branchTarget not_moAssertedAt_of_branchTarget hat] at hat
    rw [actAt_moEnN]
    obtain hset | ⟨hbefore, hclr⟩ := moAssertedAt_succLabel hat
    · rw [if_pos hset]
    · simp [hclr, hmo hbefore]
  case on =>
    rw [actAt_seqPc_of_not_branchTarget not_onClearedAt_of_branchTarget hat] at hat
    obtain ⟨hset, hclr⟩ := onClearedAt_succLabel hat
    rw [actAt_onEnN]
    obtain hclr | hbefore := hclr
    · simp [hset, hclr]
    · simp [hset, hon hbefore]

theorem doReset_interlock (s : State) : interlock (doReset s) := by
  refine ⟨fun h => absurd h ?_, fun h => absurd h ?_, fun _ => doReset_onEnN s⟩
  · simp
  · simp [moAssertedAt]

theorem RunStep.interlock {s t : State} (hs : interlock s) (h : RunStep s t) : interlock t := by
  cases h with
  | seq => exact actAt_interlock hs
  | reset => exact doReset_interlock s
  | _ => exact hs

/-! ### The mode at each label (R37, R118) -/

/-- DECIDE and DISPATCH alone branch. -/
theorem actAt_seqPc_eq_succLabel {l : Label} (hdecide : l ≠ .cDecide) (hdispatch : l ≠ .cDispatch) (s : State) :
    (actAt l s).seqPc = succLabel l := by
  cases l with
  | cDecide => exact absurd rfl hdecide
  | cDispatch => exact absurd rfl hdispatch
  | _ => rfl

/-- But where SEQ dispatches and commits, a mode that fits a label fits the next one. -/
theorem modeFits_succLabel {l : Label} {m : BitVec 3} (hdispatch : l ≠ .cDispatch) (hcommit : l ≠ .cCommit)
    (h : modeFits l m = true) : modeFits (succLabel l) m = true := by
  cases l with
  | cDispatch => exact absurd rfl hdispatch
  | cCommit => exact absurd rfl hcommit
  | _ => revert m; decide

theorem modeFits_actionEntry {m : BitVec 3} (h : modeFits .cDispatch m = true) : modeFits (actionEntry m) m = true := by
  revert m; decide

theorem modeFits_candidate (samp : BitVec 4) : modeFits .cDispatch (candidate samp) = true := by
  revert samp; decide

/-- The startup sequence is entered from IDLE or OFF_SET_RATE alone (R99). -/
theorem modeFits_doDecide {s : State} (h : modeFits .cDecide s.mode = true) :
    modeFits (doDecide s).seqPc s.mode = true := by
  have hpc : (doDecide s).seqPc = if startSeq (candidate s.samp) s.mode then .sSetMo else .cCommit := rfl
  rw [hpc]
  split
  next hstart =>
    obtain ⟨-, hmode⟩ := (startSeq_iff _ _).mp hstart
    simpa [modeFits] using hmode
  next => exact h

theorem actAt_modeFits {l : Label} {s : State} (h : modeFits l s.mode = true) :
    modeFits (actAt l s).seqPc (actAt l s).mode = true := by
  rw [actAt_mode]
  by_cases hcommit : l = .cCommit
  · rw [if_pos hcommit, hcommit]
    exact modeFits_candidate s.samp
  · rw [if_neg hcommit]
    by_cases hdispatch : l = .cDispatch
    · rw [hdispatch] at h ⊢
      exact modeFits_actionEntry h
    · by_cases hdecide : l = .cDecide
      · rw [hdecide] at h ⊢
        exact modeFits_doDecide h
      · rw [actAt_seqPc_eq_succLabel hdecide hdispatch]
        exact modeFits_succLabel hdispatch hcommit h

theorem alarmLabel_of_modeFits {m : BitVec 3} (h : modeFits .aSetAlarmState m = true) :
    ∃ v, alarmLabel m = some v ∧ v.toNat ≤ 3 := by
  revert m; decide

theorem actAt_modeLegal {s : State} (h : modeLegal s) : modeLegal (actAt s.seqPc s) := by
  obtain ⟨hfits, halarm⟩ := h
  refine ⟨actAt_modeFits hfits, ?_⟩
  by_cases hlabel : s.seqPc = .aSetAlarmState
  · rw [hlabel] at hfits ⊢
    obtain ⟨v, hv, hle⟩ := alarmLabel_of_modeFits hfits
    rw [actAt, doSetAlarmState, hv, doAlarmLabel_some]
    exact hle
  · rw [actAt_alarmState_of_ne hlabel]
    exact halarm

theorem RunStep.modeLegal {s t : State} (hs : modeLegal s) (h : RunStep s t) : modeLegal t := by
  cases h with
  | seq => exact actAt_modeLegal hs
  | reset => exact ⟨rfl, Nat.zero_le 3⟩
  | _ => exact hs

/-! ### The clocks (R204 items 2 and 3) -/

/-- What a step of a run does to the clock and to the tick until which SEQ is held: SEQ moves only when it is held no
longer; but for a RESET every other step leaves it at its label, held as long as before. -/
theorem RunStep.clock {s t : State} (h : RunStep s t) :
    (s.seqHold = 0 ∧ t = actAt s.seqPc s) ∨ (t.now = 0 ∧ t.seqPc = .cSample) ∨
      (t.seqPc = s.seqPc ∧ s.now ≤ t.now ∧ s.now + s.seqHold ≤ t.now + t.seqHold) := by
  cases h with
  | seq hhold => exact .inl ⟨hhold, rfl⟩
  | reset => exact .inr (.inl ⟨rfl, rfl⟩)
  | advance =>
    refine .inr (.inr ⟨rfl, ?_, ?_⟩)
    · rw [passTick_now]; omega
    · rw [passTick_now, passTick_seqHold]; omega
  | _ => exact .inr (.inr ⟨rfl, le_refl _, le_refl _⟩)

theorem startupClock_of_held {t0 : Nat} {s t : State} (hs : startupClock t0 s) (hpc : t.seqPc = s.seqPc)
    (hheld : s.now + s.seqHold ≤ t.now + t.seqHold) : startupClock t0 t := by
  obtain ⟨hwait, hset⟩ := hs
  exact ⟨fun h => (hwait (hpc ▸ h)).trans hheld, fun h => (hset (hpc ▸ h)).trans hheld⟩

theorem shutdownClock_of_held {t0 : Nat} {s t : State} (hs : shutdownClock t0 s) (hpc : t.seqPc = s.seqPc)
    (hheld : s.now + s.seqHold ≤ t.now + t.seqHold) : shutdownClock t0 t := by
  obtain ⟨hwait, hclr⟩ := hs
  exact ⟨fun h => (hwait (hpc ▸ h)).trans hheld, fun h => (hclr (hpc ▸ h)).trans hheld⟩

/-- SEQ comes to a label that is no branch target from the label before it. -/
theorem succLabel_of_actAt_seqPc {l target : Label} {s : State} (ht : branchTarget target = false)
    (h : (actAt l s).seqPc = target) : succLabel l = target := by
  obtain e | hbranch := actAt_seqPc l s
  · exact e.symm.trans h
  · rw [h, ht] at hbranch; cases hbranch

theorem eq_sSetMo_of_succLabel {l : Label} (h : succLabel l = .sWait) : l = .sSetMo := by
  revert h; cases l <;> decide

theorem eq_sWait_of_succLabel {l : Label} (h : succLabel l = .sSetOn) : l = .sWait := by
  revert h; cases l <;> decide

theorem actAt_startupClock {t0 : Nat} {s : State} (h0 : t0 ≤ s.now) (hhold : s.seqHold = 0) (hs : startupClock t0 s) :
    startupClock t0 (actAt s.seqPc s) := by
  obtain ⟨hwait, -⟩ := hs
  refine ⟨fun hpc => ?_, fun hpc => ?_⟩
  · have hfrom : s.seqPc = .sSetMo := eq_sSetMo_of_succLabel (succLabel_of_actAt_seqPc rfl hpc)
    have hdur : minDurAt s.seqPc = 1 := by rw [hfrom]; rfl
    rw [actAt_now, actAt_seqHold]
    omega
  · have hfrom : s.seqPc = .sWait := eq_sWait_of_succLabel (succLabel_of_actAt_seqPc rfl hpc)
    have hdur : minDurAt s.seqPc = wait5Ticks := by rw [hfrom]; rfl
    have hready := hwait hfrom
    rw [actAt_now, actAt_seqHold]
    omega

theorem not_atShutdownWait_of_branchTarget (l : Label) (h : branchTarget l = true) : atShutdownWait l = false := by
  revert h; cases l <;> decide

theorem not_atClrMo_of_branchTarget (l : Label) (h : branchTarget l = true) : atClrMo l = false := by
  revert h; cases l <;> decide

/-- WAIT_1MS comes after CLR_ON, and CLR_MO after WAIT_1MS (40_mode_state_machine.md R106). -/
theorem atClrOn_of_succLabel {l : Label} (h : atShutdownWait (succLabel l) = true) : atClrOn l = true := by
  revert h; cases l <;> decide

theorem atShutdownWait_of_succLabel {l : Label} (h : atClrMo (succLabel l) = true) : atShutdownWait l = true := by
  revert h; cases l <;> decide

theorem minDurAt_of_atClrOn {l : Label} (h : atClrOn l = true) : minDurAt l = 1 := by
  revert h; cases l <;> simp [atClrOn, minDurAt, minDur]

theorem minDurAt_of_atShutdownWait {l : Label} (h : atShutdownWait l = true) : minDurAt l = wait1Ticks := by
  revert h; cases l <;> simp [atShutdownWait, minDurAt]

theorem actAt_shutdownClock {t0 : Nat} {s : State} (h0 : t0 ≤ s.now) (hhold : s.seqHold = 0) (hs : shutdownClock t0 s) :
    shutdownClock t0 (actAt s.seqPc s) := by
  obtain ⟨hwait, -⟩ := hs
  refine ⟨fun hat => ?_, fun hat => ?_⟩
  · rw [actAt_seqPc_of_not_branchTarget not_atShutdownWait_of_branchTarget hat] at hat
    have hdur := minDurAt_of_atClrOn (atClrOn_of_succLabel hat)
    rw [actAt_now, actAt_seqHold]
    omega
  · rw [actAt_seqPc_of_not_branchTarget not_atClrMo_of_branchTarget hat] at hat
    have hfrom := atShutdownWait_of_succLabel hat
    have hdur := minDurAt_of_atShutdownWait hfrom
    have hready := hwait hfrom
    rw [actAt_now, actAt_seqHold]
    omega

/-- SEQ's labels after SET_MO begin the clock of the startup sequence. -/
theorem doSetMo_startupClock (s : State) : startupClock s.now (doSetMo .sSetMo s) :=
  ⟨fun _ => le_refl _, fun h => absurd h (by simp [doSetMo, succLabel])⟩

theorem doClrOn_shutdownClock {l : Label} (h : l ∈ [Label.iClrOn, .fClrOn, .aClrOn]) (s : State) :
    shutdownClock s.now (doClrOn l s) := by
  have hnot : atClrMo (succLabel l) = false := by
    revert h; cases l <;> decide
  refine ⟨fun _ => le_refl _, fun hat => ?_⟩
  exact absurd (hnot.symm.trans hat) Bool.false_ne_true

/-- What a step of a run does to a clock that holds, if it is one that SEQ's own moves and the holding of SEQ keep. -/
theorem step_clock {C : State → Prop} {t0 : Nat}
    (hbook : ∀ s ag d p, C s → C { s with agenda := ag, draws := d, patience := p })
    (hseq : ∀ s, t0 ≤ s.now → s.seqHold = 0 → C s → C (actAt s.seqPc s))
    (hheld : ∀ s t, C s → t.seqPc = s.seqPc → s.now + s.seqHold ≤ t.now + t.seqHold → C t)
    {s t : State} (ho : onlyActs s = true) (h0 : t0 ≤ s.now) (hs : C s) (e : step s = .next t) :
    (t0 ≤ t.now ∧ C t) ∨ (t.now = 0 ∧ t.seqPc = .cSample) := by
  obtain ⟨ag, d, p, hrun, -⟩ := step_runStep ho e
  have hs' := hbook s ag d p hs
  obtain ⟨hhold, rfl⟩ | hreset | ⟨hpc, hnow, hsum⟩ := hrun.clock
  · exact .inl ⟨by rw [actAt_now]; exact h0, hseq _ h0 hhold hs'⟩
  · exact .inr hreset
  · exact .inl ⟨h0.trans hnow, hheld _ _ hs' hpc hsum⟩

/-! ### Urgency and fairness (20_memory.md R59, R69) -/

/-- While a timer operation is due no step of a run moves the clock, but for a RESET. -/
theorem RunStep.urgent {s t : State} (h : RunStep s t) (hdue : timerDue s = true) :
    t.now = s.now ∨ (t.now = 0 ∧ t.seqPc = .cSample ∧ t.seqHold = 0) := by
  cases h with
  | seq => exact .inl (actAt_now _ s)
  | advance hnot => rw [hdue] at hnot; cases hnot
  | reset => exact .inr ⟨rfl, rfl, rfl⟩
  | _ => exact .inl rfl

theorem timerDue_of_counters {s : State} (h : s.ppgCnt = 0 ∨ (s.aflRun = 1#1 ∧ s.aflCnt = 0)) : timerDue s = true := by
  rw [timerDue, Bool.or_eq_true, pulseDue_eq_true_iff, flashDue_eq_true_iff]
  exact h

/-- An act that is not SEQ's does not make SEQ wait, and leaves the agenda and the patience alone. -/
theorem perform_keeps_seq_ready {a : Act} {s t : State} (ha : enabled a s = true) (hne : a ≠ .seq)
    (h : perform a s = .next t) (hhold : s.seqHold = 0) :
    t.seqHold = 0 ∧ t.agenda = s.agenda ∧ t.patience = s.patience := by
  cases a with
  | seq => exact absurd rfl hne
  | advance =>
    obtain ⟨-, hdue⟩ := (enabled_advance_iff s).mp ha
    rw [perform, exec_advance_of_not_timerDue hdue] at h
    cases h
    exact ⟨by rw [passTick_seqHold, hhold], rfl, rfl⟩
  | reset => cases h; exact ⟨rfl, rfl, rfl⟩
  | pulseTick | flashTick | input c => cases h; exact ⟨hhold, rfl, rfl⟩

/-- A free step that passes over an enabled SEQ uses up its patience and leaves it enabled, if RST stays low. -/
theorem stepFree_passes_over {s : State} (hhold : s.seqHold = 0) (hseq : enabled .seq s = true) (hne : freeAct s ≠ .seq) :
    ∃ t, stepFree s = .next t ∧ t.seqHold = 0 ∧ t.agenda = s.agenda ∧ t.patience + 1 = s.patience := by
  obtain ⟨t, ht⟩ := stepFree_answers s
  have hen : enabled (freeAct s) { s with draws := s.draws + 1, patience := freePatience s } = true :=
    (enabled_bookkeeping _ s s.agenda _ _).trans (enabled_freeAct s)
  obtain ⟨hready, hagenda, hpatience⟩ := perform_keeps_seq_ready hen hne ht hhold
  exact ⟨t, ht, hready, hagenda, by rw [hpatience]; exact freePatience_lt hseq hne⟩

theorem stepFree_of_freeAct_seq {s : State} (h : freeAct s = .seq) :
    stepFree s = exec (uopAt s.seqPc) { s with draws := s.draws + 1, patience := freePatience s } := by
  rw [stepFree, h, perform]

/-- RST is high, or the next step is SEQ's micro-op. -/
abbrev seqMovesNext (s : State) : Prop :=
  s.inp.rst = 1#1 ∨ ∃ d p : Nat, step s = exec (uopAt s.seqPc) { s with draws := d, patience := p }

/-- With nothing asked for and no hold, SEQ moves next, or it is passed over and has one step fewer to wait. -/
theorem seqMovesNext_or_passed_over {s : State} (hag : s.agenda = []) (hhold : s.seqHold = 0) :
    seqMovesNext s ∨ ∃ t, step s = .next t ∧ t.agenda = [] ∧ t.seqHold = 0 ∧ t.patience + 1 = s.patience := by
  cases hheld : resetHeld s
  case true => exact .inl (.inl ((resetHeld_eq_true_iff s).mp hheld))
  case false =>
    rw [seqMovesNext, step_of_agenda_nil hag]
    by_cases hfree : freeAct s = .seq
    · exact .inl (.inr ⟨_, _, stepFree_of_freeAct_seq hfree⟩)
    · obtain ⟨t, hstep, hready, hagenda, hless⟩ :=
        stepFree_passes_over hhold ((enabled_seq_iff s).mpr ⟨hheld, hhold⟩) hfree
      exact .inr ⟨t, hstep, hagenda.trans hag, hready, hless⟩

/-- The bounded wait of R69: with nothing asked for, SEQ moves within the patience the state holds. -/
theorem seq_moves_within_patience (n : Nat) {s : State} (hn : s.patience = n) (hag : s.agenda = [])
    (hhold : s.seqHold = 0) : ∃ (k : Nat) (u : State), k ≤ n ∧ core.run k s = .next u ∧ seqMovesNext u := by
  induction n generalizing s with
  | zero =>
    obtain hmoves | ⟨t, -, -, -, hless⟩ := seqMovesNext_or_passed_over hag hhold
    · exact ⟨0, s, le_refl 0, rfl, hmoves⟩
    · omega
  | succ n ih =>
    obtain hmoves | ⟨t, hstep, hagenda, hready, hless⟩ := seqMovesNext_or_passed_over hag hhold
    · exact ⟨0, s, Nat.zero_le _, rfl, hmoves⟩
    · obtain ⟨k, u, hk, hrun, hmoves⟩ := ih (by omega) hagenda hready
      exact ⟨k + 1, u, Nat.succ_le_succ hk, (run_succ hstep k).trans hrun, hmoves⟩

end Sys2Proof.Machine

namespace Sys2Proof.Proofs

open Sys2Proof.Machine

/-- Settles O46: the positions of SEQ in `interlock` make it inductive, so a step of a run keeps it. -/
theorem stepKeepsTheInterlock : Obligations.StepKeepsTheInterlock := by
  unfold Obligations.StepKeepsTheInterlock
  intro s t ho hs hstep
  exact runStep_induction (fun _ _ _ _ h => h) (fun _ _ h hrun => hrun.interlock h) ho hs hstep

/-- Settles O47: the mode fits each label SEQ goes to, so SET_ALARM_STATE finds an alarm mode with a label up to MO. -/
theorem stepKeepsTheModeLegal : Obligations.StepKeepsTheModeLegal := by
  unfold Obligations.StepKeepsTheModeLegal
  intro s t ho hs hstep
  exact runStep_induction (fun _ _ _ _ h => h) (fun _ _ h hrun => hrun.modeLegal h) ho hs hstep

/-- Settles O49: SEQ leaves each label of the sequence only when its hold has run out. -/
theorem onFollowsMoByFiveMilliseconds : Obligations.OnFollowsMoByFiveMilliseconds := by
  unfold Obligations.OnFollowsMoByFiveMilliseconds
  refine ⟨fun s t h => ?start, fun s t t0 ho h0 hs hstep => ?keeps, fun s t0 hs hpc hen => ?use⟩
  case start =>
    cases h
    exact doSetMo_startupClock s
  case keeps =>
    exact step_clock (fun _ _ _ _ h => h) (fun _ h0 hhold h => actAt_startupClock h0 hhold h)
      (fun _ _ h hpc hheld => startupClock_of_held h hpc hheld) ho h0 hs hstep
  case use =>
    obtain ⟨-, hhold⟩ := (enabled_seq_iff s).mp hen
    have hset := hs.2 hpc
    omega

/-- Settles O50: the same of the shutdown sequence, at the labels of its three places. -/
theorem moFollowsOnByOneMillisecond : Obligations.MoFollowsOnByOneMillisecond := by
  unfold Obligations.MoFollowsOnByOneMillisecond
  refine ⟨fun s t l hl h => ?start, fun s t t0 ho h0 hs hstep => ?keeps, fun s t0 hs hat hen => ?use⟩
  case start =>
    cases h
    exact doClrOn_shutdownClock hl s
  case keeps =>
    exact step_clock (fun _ _ _ _ h => h) (fun _ h0 hhold h => actAt_shutdownClock h0 hhold h)
      (fun _ _ h hpc hheld => shutdownClock_of_held h hpc hheld) ho h0 hs hstep
  case use =>
    obtain ⟨-, hhold⟩ := (enabled_seq_iff s).mp hen
    have hclr := hs.2 hat
    omega

/-- Settles O10: ADVANCE is not among the steps while a timer operation is due; and each free step that passes over SEQ
takes one off its patience. -/
theorem timersAreUrgentAndSeqIsFair : Obligations.TimersAreUrgentAndSeqIsFair := by
  unfold Obligations.TimersAreUrgentAndSeqIsFair
  refine ⟨fun s t ho hcounters hstep => ?urgent, fun s hag hhold => seq_moves_within_patience _ rfl hag hhold⟩
  case urgent =>
    obtain ⟨ag, d, p, hrun, -⟩ := step_runStep ho hstep
    exact hrun.urgent (timerDue_of_counters hcounters)

end Sys2Proof.Proofs

/-! ## Proofs: the composites while ENV does nothing inside them (40_mode_state_machine.md R100 to R106;
41_power_level_encoder.md R120; 42_pulse_rate_encoder.md R130; 44_alarm_actions.md R150 to R154)

`CalmRun` says what a sequence of micro-ops with free lags comes to. The state in which its last micro-op is performed is
known in SEQ's registers, so what that one leaves, the LED included, can be read off. -/

namespace Sys2Proof.Machine

/-- From `t`, with ENV doing nothing, a sequence has come to `v`. In SEQ's registers `v` is `target` and it is at the label of
`target`, SEQ is held for `hold`, and at least `ticks` more ticks than `t` holds SEQ for have passed. -/
structure CalmRun (t target : State) (ticks hold : Nat) (v : State) : Prop where
  env : v.env = []
  regs : sameSeqRegs target v
  pc : v.seqPc = target.seqPc
  hold : v.seqHold = hold
  time : t.now + t.seqHold + ticks ≤ v.now

/-- SEQ comes to its next micro-op. -/
theorem comeTo_calm (τ : Nat → Lag) {s t : State} (he : t.env = []) (hs : sameSeqRegs s t) (hpc : t.seqPc = s.seqPc) :
    CalmRun t s 0 0 (comeTo τ t) := by
  obtain ⟨hregs, hlabel, hhold, hnow, -⟩ := comeTo_spec τ t
  exact ⟨(comeTo_env τ t).trans he, sameSeqRegs_trans hs hregs, hlabel.trans hpc, hhold, by omega⟩

/-- A micro-op is performed where the sequence has come to. -/
theorem CalmRun.act {t target v : State} {ticks hold d : Nat} (c : CalmRun t target ticks hold v) {op : State → State}
    (hop : ActsOnSeqRegs d op) : CalmRun t (op target) ticks d (op v) := by
  obtain ⟨env, regs, -, -, time⟩ := c
  exact ⟨(hop.env v).trans env, hop.regs _ _ regs, hop.next _ _ regs, hop.hold v, time.trans (hop.clock v).ge⟩

/-- One micro-op, with nothing of ENV to come. -/
theorem performAll_single (τ : Nat → Lag) (op : State → State) {t : State} (he : t.env = []) :
    performAll τ [op] t = .ok (op (comeTo τ t)) := by
  rw [performAll, awaitSeq_calm τ he]
  rfl

/-- A sequence comes to its last micro-op. -/
theorem performAll_calm (τ : Nat → Lag) {ds : List Nat} {ops : List (State → State)}
    (h : List.Forall₂ ActsOnSeqRegs ds ops) {s t : State} (he : t.env = []) (hs : sameSeqRegs s t)
    (hpc : t.seqPc = s.seqPc) (last : State → State) :
    ∃ v, performAll τ (ops ++ [last]) t = .ok (last v) ∧ CalmRun t (backToBack ops s) ds.sum 0 v := by
  obtain ⟨u, hrun, hcalm, hregs, hlabel, htime⟩ := performAll_spec τ h he hs hpc
  obtain ⟨env, regs, pc, hold, time⟩ := comeTo_calm τ hcalm hregs hlabel
  refine ⟨comeTo τ u, ?_, env, regs, pc, hold, by omega⟩
  rw [performAll_append, hrun]
  exact performAll_single τ last hcalm

/-- What a composite answers when its sequence comes to its end. -/
theorem next_ended {x : Except State State} {t : State} (h : x = .ok t) : (.next (ended x) : Result) = .next t := by
  rw [h, ended]

/-! ### The expansions but for the last micro-op: their durations (70_reset_and_hazards.md R225) -/

theorem powerOps_acts (l : Label) : List.Forall₂ ActsOnSeqRegs [1, 1] (powerOps l) :=
  .cons (doLoadPower_acts l) (.cons (doDispPower_acts _) .nil)

theorem rateOps_acts : List.Forall₂ ActsOnSeqRegs [1, 1] rateOps :=
  .cons doLoadRate_acts (.cons doDispRate_acts .nil)

theorem startupOps_acts : List.Forall₂ ActsOnSeqRegs [1, wait5Ticks, 1] startupOps :=
  .cons (doSetMo_acts _) (.cons doWait5ms_acts (.cons (doSetOn_acts _) .nil))

theorem shutdownOps_acts (l : Label) : List.Forall₂ ActsOnSeqRegs [1, 1, wait1Ticks, 1] (shutdownOps l) :=
  .cons (doClrGate_acts _) (.cons (doClrOn_acts _) (.cons (doWait1ms_acts _) (.cons (doClrMo_acts _) .nil)))

/-- RUN_ON up to SET_LED. -/
theorem runOnBody_acts :
    List.Forall₂ ActsOnSeqRegs ([1, 1] ++ [1, 1]) ([doSetMo .nSetMo, doSetOn .nSetOn] ++ powerOps .nLoadPower) :=
  List.rel_append (.cons (doSetMo_acts _) (.cons (doSetOn_acts _) .nil)) (powerOps_acts _)

/-- RUN_IDLE up to CLR_LED. -/
theorem runIdleBody_acts :
    List.Forall₂ ActsOnSeqRegs ([1, 1, wait1Ticks, 1] ++ [1, 1]) (shutdownOps .iClrGate ++ powerOps .iLoadPower) :=
  List.rel_append (shutdownOps_acts _) (powerOps_acts _)

/-- RUN_OFF_SET_RATE up to CLR_LED. -/
theorem runOffSetRateBody_acts :
    List.Forall₂ ActsOnSeqRegs ([1, 1, wait1Ticks, 1] ++ [1, 1]) (shutdownOps .fClrGate ++ rateOps) :=
  List.rel_append (shutdownOps_acts _) rateOps_acts

/-- ALARM_ACTION up to the label. -/
theorem alarmBody_acts :
    List.Forall₂ ActsOnSeqRegs ([1, 1] ++ [1, 1, wait1Ticks, 1]) ([doFlashStart, doClrDisplay] ++ shutdownOps .aClrGate) :=
  List.rel_append (.cons doFlashStart_acts (.cons doClrDisplay_acts .nil)) (shutdownOps_acts _)

/-! ### The expansions but for the last micro-op: what they leave in SEQ's registers -/

/-- Level, pins and display from the dial (41_power_level_encoder.md R120). -/
def withPower (s : State) : State :=
  { s with powerLevel := s.inp.dial, pN := ~~~s.inp.dial, displayCode := disp (pwrMv s.inp.dial) }

/-- Rate and display from the dial (42_pulse_rate_encoder.md R130). -/
def withRate (s : State) : State := { s with rateR := s.inp.dial, displayCode := disp (rateDisp s.inp.dial) }

/-- Both enables asserted (40_mode_state_machine.md R100, R103). -/
def withEnables (s : State) : State := { s with moEnN := 0#1, onEnN := 0#1 }

/-- Gate cleared, both enables de-asserted (40_mode_state_machine.md R106). -/
def withShutdown (s : State) : State := { s with gate := 0#1, onEnN := 1#1, moEnN := 1#1 }

/-- Flasher running, display 0, and shut down (44_alarm_actions.md R150). -/
def withAlarm (s : State) : State :=
  { s with aflRun := 1#1, displayCode := 0#12, gate := 0#1, onEnN := 1#1, moEnN := 1#1 }

theorem runOnBody_regs (s : State) :
    sameSeqRegs (withPower (withEnables s))
      (backToBack ([doSetMo .nSetMo, doSetOn .nSetOn] ++ powerOps .nLoadPower) s) :=
  ⟨rfl, rfl, rfl, rfl, rfl, rfl, rfl, rfl, rfl, rfl, rfl, rfl, rfl, rfl, rfl⟩

theorem runIdleBody_regs (s : State) :
    sameSeqRegs (withPower (withShutdown s)) (backToBack (shutdownOps .iClrGate ++ powerOps .iLoadPower) s) :=
  ⟨rfl, rfl, rfl, rfl, rfl, rfl, rfl, rfl, rfl, rfl, rfl, rfl, rfl, rfl, rfl⟩

theorem runOffSetRateBody_regs (s : State) :
    sameSeqRegs (withRate (withShutdown s)) (backToBack (shutdownOps .fClrGate ++ rateOps) s) :=
  ⟨rfl, rfl, rfl, rfl, rfl, rfl, rfl, rfl, rfl, rfl, rfl, rfl, rfl, rfl, rfl⟩

theorem alarmBody_regs (s : State) :
    sameSeqRegs (withAlarm s) (backToBack ([doFlashStart, doClrDisplay] ++ shutdownOps .aClrGate) s) := by
  rw [List.cons_append, backToBack_cons, doFlashStart_eq]
  exact ⟨rfl, rfl, rfl, rfl, rfl, rfl, rfl, rfl, rfl, rfl, rfl, rfl, rfl, rfl, rfl⟩

/-- The target of a sequence may be given by other values of the same registers. -/
theorem CalmRun.regs_of {t target v s : State} {ticks hold : Nat} (c : CalmRun t target ticks hold v)
    (h : sameSeqRegs s target) : sameSeqRegs s v :=
  sameSeqRegs_trans h c.regs

/-- The alarm action with its last act given, from a state that in SEQ's registers is `s`. -/
theorem alarmOps_calm (τ : Nat → Lag) {s t : State} (he : t.env = []) (hs : sameSeqRegs s t) (hpc : t.seqPc = s.seqPc)
    (last : State → State) :
    ∃ v, performAll τ (alarmOps last) t = .ok (last v) ∧ v.env = [] ∧ sameSeqRegs (withAlarm s) v ∧
      t.now + t.seqHold + 5 + wait1Ticks ≤ v.now := by
  obtain ⟨v, hrun, c⟩ := performAll_calm τ alarmBody_acts he hs hpc last
  have htime := c.time
  simp only [List.sum_append, List.sum_cons, List.sum_nil] at htime
  exact ⟨v, hrun, c.env, c.regs_of (alarmBody_regs s), by omega⟩

theorem mode_of_sameSeqRegs {s t : State} (h : sameSeqRegs s t) : t.mode = s.mode := by
  obtain ⟨-, -, -, -, hmode, -⟩ := h
  exact hmode

theorem aflRun_of_sameSeqRegs {s t : State} (h : sameSeqRegs s t) : t.aflRun = s.aflRun := by
  obtain ⟨-, -, -, haflRun, -⟩ := h
  exact haflRun

/-- In an alarm mode SET_ALARM_STATE is the last act with the label of the mode. -/
theorem doSetAlarmState_eq {v : State} {label : BitVec 3} (h : alarmLabel v.mode = some label) :
    doSetAlarmState v = doAlarmLabel (some label) v := by
  rw [doSetAlarmState, h]

/-- The labels of SHUTDOWN_SEQ, each with the label after it (40_mode_state_machine.md R106). -/
theorem succLabel_of_mem_shutdown_labels {l next : Label}
    (h : (l, next) ∈ [(Label.iClrGate, Label.iLoadPower), (.fClrGate, .fLoadRate), (.aClrGate, .aSetAlarmState)]) :
    succLabel (succLabel (succLabel (succLabel l))) = next := by
  simp only [List.mem_cons, List.not_mem_nil, or_false, Prod.mk.injEq] at h
  obtain ⟨rfl, rfl⟩ | ⟨rfl, rfl⟩ | ⟨rfl, rfl⟩ := h <;> rfl

/-- The labels of POWER_ENCODE, each with the label after it (41_power_level_encoder.md R120). -/
theorem succLabel_of_mem_power_labels {l next : Label}
    (h : (l, next) ∈ [(Label.nLoadPower, Label.nSetLed), (.iLoadPower, .iClrLed)]) : succLabel (succLabel l) = next := by
  simp only [List.mem_cons, List.not_mem_nil, or_false, Prod.mk.injEq] at h
  obtain ⟨rfl, rfl⟩ | ⟨rfl, rfl⟩ := h <;> rfl

/-- The pulse interval in progress is no longer than the half-period of the rate held. -/
def intervalFits (s : State) : Prop := s.ppgCnt ≤ halfTicks s.rateR

theorem intervalFits_keptByParts : KeptByParts intervalFits where
  microOp ho s h := by
    obtain ⟨hrate, hcnt⟩ | ⟨hrate, hcnt⟩ := ho.rate s
    · rw [intervalFits, hrate, hcnt]; exact h
    · rw [intervalFits, hrate, hcnt]
  pulseTick s _ := le_refl (halfTicks s.rateR)
  flashTick _ h := h
  passTick _ h := (Nat.sub_le _ _).trans h
  reset _ _ := le_refl (halfTicks Config.rateReset)
  inputs _ _ _ h := h
  candidate _ _ h := h
  bookkeeping _ _ _ _ h := h

/-- The alarm action with the label of its last act, as `AlarmActionShutsDownAndLabels` says it. -/
theorem alarmOps_labels (τ : Nat → Lag) {s : State} (he : s.env = []) {last : State → State} {label : BitVec 3}
    (hlast : ∀ v, v.mode = s.mode → last v = doAlarmLabel (some label) v) :
    ∃ t, performAll τ (alarmOps last) s = .ok t ∧ t.env = [] ∧ t.seqPc = .cLoop ∧ t.seqHold = 1 ∧
      s.now + s.seqHold + 5 + wait1Ticks ≤ t.now ∧ sameSeqRegs { withAlarm s with alarmState := label } t := by
  obtain ⟨v, hrun, henv, hregs, htime⟩ := alarmOps_calm τ he (sameSeqRegs_refl s) rfl last
  have hmode := mode_of_sameSeqRegs hregs
  rw [hlast v hmode] at hrun
  exact ⟨_, hrun, henv, rfl, rfl, htime, (doAlarmLabel_acts label).regs _ _ hregs⟩

/-- The same of a row of MODE3, which gives the mode whose label it writes. -/
theorem alarmRow_labels {s : State} (he : s.env = []) {i : Instr} {m label : BitVec 3}
    (hi : exec i s = .next (ended (performAll Config.lag (alarmOps (doAlarmLabel (alarmLabel m))) s)))
    (hm : alarmLabel m = some label) :
    ∃ t, exec i s = .next t ∧ t.seqPc = .cLoop ∧ t.seqHold = 1 ∧ s.now + s.seqHold + 5 + wait1Ticks ≤ t.now ∧
      sameSeqRegs { withAlarm s with alarmState := label } t := by
  obtain ⟨t, hrun, -, hpc, hhold, htime, hregs⟩ :=
    alarmOps_labels Config.lag he (label := label) fun v _ => congrArg (fun l => doAlarmLabel l v) hm
  exact ⟨t, hi.trans (next_ended hrun), hpc, hhold, htime, hregs⟩

theorem alarmLabel_reserved (x : Level) : alarmLabel ((0b11#2 : BitVec 2) ++ x) = some 4#3 := by
  obtain rfl | rfl := BitVec.eq_zero_or_eq_one x <;> decide

theorem alarmLabel_of_ge {m : BitVec 3} (h : 3 ≤ m.toNat) : ∃ label, alarmLabel m = some label := by
  revert m; decide

/-- After an alarm action, another one would leave SEQ's registers as they are. -/
theorem withAlarm_regs_again {s t : State} {label : BitVec 3}
    (h : sameSeqRegs { withAlarm s with alarmState := label } t) :
    sameSeqRegs t { withAlarm t with alarmState := label } := by
  obtain ⟨-, -, hgate, haflRun, -, halarm, -, hmo, hon, -, hdisplay, -⟩ := h
  exact ⟨rfl, rfl, hgate.symm, haflRun.symm, rfl, halarm.symm, rfl, hmo.symm, hon.symm, rfl, hdisplay.symm, rfl, rfl, rfl,
    rfl⟩

/-! ### NEXTMODE (40_mode_state_machine.md R92, R99) -/

/-- The mode of the levels on the pins; on the edge of R99 both enables asserted; at DISPATCH. -/
def withNextMode (s : State) : State :=
  { s with
    samp := readDiscrete s.inp
    cand := candidate (readDiscrete s.inp)
    mode := candidate (readDiscrete s.inp)
    moEnN := if startSeq (candidate (readDiscrete s.inp)) s.mode then 0#1 else s.moEnN
    onEnN := if startSeq (candidate (readDiscrete s.inp)) s.mode then 0#1 else s.onEnN
    seqPc := .cDispatch }

/-- The minimum ticks of NEXTMODE up to COMMIT (70_reset_and_hazards.md R226). -/
def nextModeTicks (s : State) : Nat :=
  2 + if startSeq (candidate (readDiscrete s.inp)) s.mode then 2 + wait5Ticks else 0

theorem doDecide_doSample_seqPc (s : State) :
    (doDecide (doSample s)).seqPc = if startSeq (candidate (readDiscrete s.inp)) s.mode then .sSetMo else .cCommit := rfl

theorem edge_regs {s : State} (h : startSeq (candidate (readDiscrete s.inp)) s.mode = true) :
    sameSeqRegs (withNextMode s) (doCommit (backToBack startupOps (doDecide (doSample s)))) := by
  simp [sameSeqRegs, withNextMode, h, startupOps, doSample, doDecide, doSetMo, doWait5ms, doSetOn, doCommit]

theorem no_edge_regs {s : State} (h : ¬ startSeq (candidate (readDiscrete s.inp)) s.mode = true) :
    sameSeqRegs (withNextMode s) (doCommit (doDecide (doSample s))) := by
  simp [sameSeqRegs, withNextMode, h, doSample, doDecide, doCommit]

theorem nextModeRun_calm (τ : Nat → Lag) {s : State} (he : s.env = []) :
    ∃ t, nextModeRun τ s = .ok t ∧ CalmRun s (withNextMode s) (nextModeTicks s) 1 t := by
  obtain ⟨v, hrun, cv⟩ := performAll_calm τ (.cons doSample_acts .nil) he (sameSeqRegs_refl s) rfl doDecide
  have cd := cv.act doDecide_acts
  have hpc := cd.pc
  have hdecide := cd.time
  rw [backToBack_cons, backToBack_nil, doDecide_doSample_seqPc] at hpc
  rw [List.sum_singleton] at hdecide
  have hbranch : nextModeRun τ s =
      performAll τ ((if (doDecide v).seqPc = .sSetMo then startupOps else []) ++ [doCommit]) (doDecide v) := by
    rw [List.singleton_append] at hrun
    rw [nextModeRun, hrun]
    rfl
  rw [hbranch, nextModeTicks]
  by_cases hedge : startSeq (candidate (readDiscrete s.inp)) s.mode = true
  · rw [if_pos hedge] at hpc
    rw [if_pos hpc, if_pos hedge]
    obtain ⟨w, hcommit, cw⟩ := performAll_calm τ startupOps_acts cd.env cd.regs cd.pc doCommit
    obtain ⟨env, regs, pc, hold, time⟩ := cw.act doCommit_acts
    simp only [List.sum_cons, List.sum_nil, cd.hold] at time
    exact ⟨_, hcommit, env, sameSeqRegs_trans (edge_regs hedge) regs, pc, hold, by omega⟩
  · rw [if_neg hedge] at hpc
    have hne : (doDecide v).seqPc ≠ .sSetMo := by simp [hpc]
    rw [if_neg hne, if_neg hedge]
    obtain ⟨w, hcommit, cw⟩ := performAll_calm τ .nil cd.env cd.regs cd.pc doCommit
    obtain ⟨env, regs, pc, hold, time⟩ := cw.act doCommit_acts
    simp only [List.sum_nil, cd.hold] at time
    exact ⟨_, hcommit, env, sameSeqRegs_trans (no_edge_regs hedge) regs, pc, hold, by omega⟩

/-! ### CONTROL_CYCLE (40_mode_state_machine.md R90) -/

/-- `P` is kept by the timer operations that are due, the passing of a tick and the drawing of free values: by all that goes
on between two micro-ops while ENV does nothing. -/
structure KeptByTime (P : State → Prop) : Prop where
  pulseTick : ∀ s, P s → P (doPulseTick s)
  flashTick : ∀ s, flashDue s = true → P s → P (doFlashTick s)
  passTick : ∀ s, P s → P (passTick s)
  draw : ∀ s d, P s → P { s with draws := d }

section

variable {P : State → Prop}

theorem KeptByTime.firePulse (hP : KeptByTime P) (s : State) (h : P s) : P (firePulse s) := by
  unfold Machine.firePulse
  split
  · exact hP.pulseTick s h
  · exact h

theorem KeptByTime.fireFlash (hP : KeptByTime P) (s : State) (h : P s) : P (fireFlash s) := by
  unfold Machine.fireFlash
  split
  next hdue => exact hP.flashTick s hdue h
  next => exact h

theorem KeptByTime.elapse (hP : KeptByTime P) (n : Nat) (s : State) (h : P s) : P (elapse n s) := by
  induction n generalizing s with
  | zero => exact h
  | succ n ih => exact ih _ (hP.passTick _ (hP.fireFlash _ (hP.firePulse _ h)))

theorem KeptByTime.comeTo (hP : KeptByTime P) (τ : Nat → Lag) (s : State) (h : P s) : P (comeTo τ s) := by
  have hn := hP.elapse (s.seqHold + (τ s.draws).ticks) _ (hP.draw s (s.draws + 1) h)
  unfold Machine.comeTo
  dsimp only
  split <;> split
  · exact hP.fireFlash _ (hP.firePulse _ hn)
  · exact hP.fireFlash _ hn
  · exact hP.firePulse _ hn
  · exact hn

end

/-- The flasher is off and the LED at `level`. -/
def ledWhileOff (level : Level) (s : State) : Prop := s.aflRun = 0#1 ∧ s.led = level

theorem ledWhileOff_keptByTime (level : Level) : KeptByTime (ledWhileOff level) where
  pulseTick _ h := h
  flashTick s hdue h := by
    obtain ⟨hrun, -⟩ := (flashDue_eq_true_iff s).mp hdue
    exact absurd (hrun.symm.trans h.1) (by decide)
  passTick _ h := h
  draw _ _ h := h

/-- While the flasher is off the LED keeps its level until SEQ acts again. -/
theorem comeTo_led (τ : Nat → Lag) {s : State} (h : s.aflRun = 0#1) : (comeTo τ s).led = s.led :=
  ((ledWhileOff_keptByTime s.led).comeTo τ s ⟨h, rfl⟩).2

/-- The cycle of an action that ends with the micro-op `op` and leaves SEQ's registers as in `target`. -/
theorem controlCycleRun_calm (τ : Nat → Lag) {s : State} (he : s.env = []) {ds : List Nat} {body : List (State → State)}
    {op : State → State} {target : State} (hops : actionOps (candidate (readDiscrete s.inp)) = body ++ [op])
    (hbody : List.Forall₂ ActsOnSeqRegs ds body) (hop : MicroOp op) (hhold : ∀ v, (op v).seqHold = 1)
    (hregs : ∀ v, sameSeqRegs (backToBack body (doDispatch (withNextMode s))) v → sameSeqRegs target (op v)) :
    ∃ v t, controlCycleRun τ s = .ok t ∧ t.seqPc = .cSample ∧ t.seqHold = 1 ∧ sameSeqRegs target t ∧
      (target.aflRun = 0#1 → t.led = (op v).led) ∧ s.now + s.seqHold + nextModeTicks s + ds.sum + 3 ≤ t.now := by
  obtain ⟨u, hnext, cu⟩ := nextModeRun_calm τ he
  have hmode := mode_of_sameSeqRegs cu.regs
  obtain ⟨v, hact, cv⟩ := performAll_calm τ (.cons doDispatch_acts hbody) cu.env cu.regs cu.pc op
  have hv := hregs v cv.regs
  obtain ⟨-, -, -, -, hnow, -, henv, -⟩ := hop.sameOutsideSeq v
  have hcalm := henv.trans cv.env
  obtain ⟨cregs, -, -, ctime, -⟩ := comeTo_spec τ (op v)
  refine ⟨v, doLoop (comeTo τ (op v)), ?run, rfl, rfl, sameSeqRegs_trans hv cregs, fun hoff => ?led, ?time⟩
  case run =>
    have hlist : [doDispatch] ++ actionOps u.mode ++ [doLoop] = (doDispatch :: body) ++ [op] ++ [doLoop] := by
      rw [hmode]
      exact congrArg (fun ops => [doDispatch] ++ ops ++ [doLoop]) hops
    have htail : performAll τ ([doDispatch] ++ actionOps u.mode ++ [doLoop]) u = .ok (doLoop (comeTo τ (op v))) := by
      rw [hlist, performAll_append, hact]
      exact performAll_single τ doLoop hcalm
    rw [controlCycleRun, hnext]
    exact htail
  case led => exact comeTo_led τ ((aflRun_of_sameSeqRegs hv).trans hoff)
  case time =>
    have h1 := cu.time
    have h2 := cv.time
    rw [cu.hold, List.sum_cons] at h2
    rw [hnow, hhold v] at ctime
    have hloop : (doLoop (comeTo τ (op v))).now = (comeTo τ (op v)).now := rfl
    omega

/-- The modes that have an alarm label take the alarm action (R102). -/
theorem actionOps_of_alarmLabel {m label : BitVec 3} (h : alarmLabel m = some label) :
    actionOps m = ([doFlashStart, doClrDisplay] ++ shutdownOps .aClrGate) ++ [doSetAlarmState] := by
  have hmode : m ≠ 0#3 ∧ m ≠ 1#3 ∧ m ≠ 2#3 := by
    revert m label; decide
  obtain ⟨h0, h1, h2⟩ := hmode
  rw [actionOps, if_neg h0, if_neg h1, if_neg h2, alarmOps]

/-- The candidate is ON, IDLE, OFF_SET_RATE or a mode with an alarm label. -/
theorem candidate_cases (v : BitVec 4) :
    candidate v = 0#3 ∨ candidate v = 1#3 ∨ candidate v = 2#3 ∨
      (3 ≤ (candidate v).toNat ∧ ∃ label, alarmLabel (candidate v) = some label) := by
  revert v; decide

/-- The label of one of the three alarm modes a candidate can be. -/
theorem alarmLabel_of_mem_candidates {m v : BitVec 3} (h : (m, v) ∈ [(3#3, 1#3), (4#3, 2#3), (5#3, 3#3)]) :
    alarmLabel m = some v := by
  revert m v; decide

theorem three_le_of_mem_candidates {m v : BitVec 3} (h : (m, v) ∈ [(3#3, 1#3), (4#3, 2#3), (5#3, 3#3)]) :
    3 ≤ m.toNat := by
  revert m v; decide

/-- If the candidate is ON, the edge of R99 is a matter of the mode still held. -/
theorem nextModeTicks_of_on {s : State} (hc : candidate (readDiscrete s.inp) = 0#3) :
    nextModeTicks s + 8 = if s.mode = 1#3 ∨ s.mode = 2#3 then 12 + wait5Ticks else 10 := by
  simp only [nextModeTicks, startSeq_iff, hc, true_and]
  split
  · omega
  · rfl

theorem two_le_nextModeTicks (s : State) : 2 ≤ nextModeTicks s := Nat.le_add_right _ _

section

variable (τ : Nat → Lag) {s : State} (he : s.env = [])

include he

theorem controlCycleRun_on (hc : candidate (readDiscrete s.inp) = 0#3) :
    ∃ t, controlCycleRun τ s = .ok t ∧ t.seqPc = .cSample ∧ t.seqHold = 1 ∧
      sameSeqRegs (withPower (withEnables (withNextMode s))) t ∧ (s.aflRun = 0#1 → t.led = 1#1) ∧
      s.now + s.seqHold + nextModeTicks s + 7 ≤ t.now := by
  obtain ⟨v, t, hrun, hpc, hhold, hregs, hled, htime⟩ :=
    controlCycleRun_calm τ he (op := doSetLed) (target := withPower (withEnables (withNextMode s)))
      (by rw [hc]; rfl) runOnBody_acts .setLed (fun _ => rfl)
      (fun _ h => sameSeqRegs_trans (runOnBody_regs (doDispatch (withNextMode s))) h)
  exact ⟨t, hrun, hpc, hhold, hregs, hled, htime⟩

theorem controlCycleRun_idle (hc : candidate (readDiscrete s.inp) = 1#3) :
    ∃ t, controlCycleRun τ s = .ok t ∧ t.seqPc = .cSample ∧ t.seqHold = 1 ∧
      sameSeqRegs (withPower (withShutdown (withNextMode s))) t ∧ (s.aflRun = 0#1 → t.led = 0#1) ∧
      s.now + s.seqHold + nextModeTicks s + 8 + wait1Ticks ≤ t.now := by
  obtain ⟨v, t, hrun, hpc, hhold, hregs, hled, htime⟩ :=
    controlCycleRun_calm τ he (op := doClrLed .iClrLed) (target := withPower (withShutdown (withNextMode s)))
      (by rw [hc]; rfl) runIdleBody_acts (.clrLed _) (fun _ => rfl)
      (fun _ h => sameSeqRegs_trans (runIdleBody_regs (doDispatch (withNextMode s))) h)
  simp only [List.sum_append, List.sum_cons, List.sum_nil] at htime
  exact ⟨t, hrun, hpc, hhold, hregs, hled, by omega⟩

theorem controlCycleRun_offSetRate (hc : candidate (readDiscrete s.inp) = 2#3) :
    ∃ t, controlCycleRun τ s = .ok t ∧ t.seqPc = .cSample ∧ t.seqHold = 1 ∧
      sameSeqRegs (withRate (withShutdown (withNextMode s))) t ∧ (s.aflRun = 0#1 → t.led = 0#1) ∧
      s.now + s.seqHold + nextModeTicks s + 8 + wait1Ticks ≤ t.now := by
  obtain ⟨v, t, hrun, hpc, hhold, hregs, hled, htime⟩ :=
    controlCycleRun_calm τ he (op := doClrLed .fClrLed) (target := withRate (withShutdown (withNextMode s)))
      (by rw [hc]; rfl) runOffSetRateBody_acts (.clrLed _) (fun _ => rfl)
      (fun _ h => sameSeqRegs_trans (runOffSetRateBody_regs (doDispatch (withNextMode s))) h)
  simp only [List.sum_append, List.sum_cons, List.sum_nil] at htime
  exact ⟨t, hrun, hpc, hhold, hregs, hled, by omega⟩

theorem controlCycleRun_alarm {label : BitVec 3} (hc : alarmLabel (candidate (readDiscrete s.inp)) = some label) :
    ∃ t, controlCycleRun τ s = .ok t ∧ t.seqPc = .cSample ∧ t.seqHold = 1 ∧
      sameSeqRegs { withAlarm (withNextMode s) with alarmState := label } t ∧
      s.now + s.seqHold + nextModeTicks s + 8 + wait1Ticks ≤ t.now := by
  have hlast : ∀ v, sameSeqRegs (withAlarm (withNextMode s)) v →
      sameSeqRegs { withAlarm (withNextMode s) with alarmState := label } (doSetAlarmState v) := by
    intro v h
    have hmode := mode_of_sameSeqRegs h
    rw [doSetAlarmState_eq ((congrArg alarmLabel hmode).trans hc)]
    exact (doAlarmLabel_acts label).regs _ _ h
  obtain ⟨v, t, hrun, hpc, hhold, hregs, -, htime⟩ :=
    controlCycleRun_calm τ he (op := doSetAlarmState)
      (target := { withAlarm (withNextMode s) with alarmState := label })
      (actionOps_of_alarmLabel hc) alarmBody_acts .setAlarmState (fun _ => rfl)
      (fun v h => hlast v (sameSeqRegs_trans (alarmBody_regs (doDispatch (withNextMode s))) h))
  simp only [List.sum_append, List.sum_cons, List.sum_nil] at htime
  exact ⟨t, hrun, hpc, hhold, hregs, by omega⟩

end

end Sys2Proof.Machine

namespace Sys2Proof.Proofs

open Sys2Proof.Machine

/-- Settles O31: the wait stands between SET_MO and SET_ON, and no other register is written. -/
theorem startupSequenceSeparatesTheEnables : Obligations.StartupSequenceSeparatesTheEnables := by
  unfold Obligations.StartupSequenceSeparatesTheEnables
  intro s he
  have hset := performAll_single Config.lag (doSetMo .sSetMo) he
  have cu := (comeTo_calm Config.lag he (sameSeqRegs_refl s) rfl).act (doSetMo_acts .sSetMo)
  obtain ⟨w, hon, cw⟩ := performAll_calm Config.lag (.cons doWait5ms_acts .nil) cu.env cu.regs cu.pc (doSetOn .sSetOn)
  have ct := cw.act (doSetOn_acts .sSetOn)
  have hall : performAll Config.lag startupOps s = .ok (doSetOn .sSetOn w) := by
    refine (performAll_append Config.lag [doSetMo .sSetMo] [doWait5ms, doSetOn .sSetOn] s).trans ?_
    rw [hset]
    exact hon
  obtain ⟨-, -, -, -, -, -, -, -, huon, -⟩ := cu.regs
  obtain ⟨-, -, -, -, -, -, -, htmo, -⟩ := ct.regs
  have hutime := cu.time
  have httime := ct.time
  rw [cu.hold, List.sum_singleton] at httime
  exact ⟨_, _, hset, hon, next_ended hall, rfl, huon, htmo, rfl, hutime, by omega, rfl, rfl, ct.regs⟩

/-- Settles O32: the wait stands between CLR_ON and CLR_MO, at each of the three places. -/
theorem shutdownSequenceSeparatesTheEnables : Obligations.ShutdownSequenceSeparatesTheEnables := by
  unfold Obligations.ShutdownSequenceSeparatesTheEnables
  intro s l next hrow he
  obtain ⟨v, hclr, cv⟩ := performAll_calm Config.lag (.cons (doClrGate_acts l) .nil) he (sameSeqRegs_refl s) rfl
    (doClrOn (succLabel l))
  have cu := cv.act (doClrOn_acts (succLabel l))
  obtain ⟨w, hoff, cw⟩ := performAll_calm Config.lag (.cons (doWait1ms_acts (succLabel (succLabel l))) .nil) cu.env
    cu.regs cu.pc (doClrMo (succLabel (succLabel (succLabel l))))
  have ct := cw.act (doClrMo_acts (succLabel (succLabel (succLabel l))))
  have hall : performAll Config.lag (shutdownOps l) s = .ok (doClrMo (succLabel (succLabel (succLabel l))) w) := by
    refine (performAll_append Config.lag ([doClrGate l] ++ [doClrOn (succLabel l)])
      ([doWait1ms (succLabel (succLabel l))] ++ [doClrMo (succLabel (succLabel (succLabel l)))]) s).trans ?_
    rw [hclr]
    exact hoff
  obtain ⟨-, -, hgate, -, -, -, -, hmo, -⟩ := cu.regs
  have hutime := cu.time
  have httime := ct.time
  rw [List.sum_singleton] at hutime
  rw [cu.hold, List.sum_singleton] at httime
  exact ⟨_, _, hclr, hoff, next_ended hall, hgate, rfl, hmo, rfl, hutime, by omega,
    succLabel_of_mem_shutdown_labels hrow, rfl, ct.regs⟩

/-- Settles O33: DISP_POWER shows the level that LOAD_POWER has read. -/
theorem powerEncodeFollowsTheDial : Obligations.PowerEncodeFollowsTheDial := by
  unfold Obligations.PowerEncodeFollowsTheDial
  intro s l next hrow he
  obtain ⟨v, hrun, cv⟩ := performAll_calm Config.lag (.cons (doLoadPower_acts l) .nil) he (sameSeqRegs_refl s) rfl
    (doDispPower (succLabel l))
  have ct := cv.act (doDispPower_acts (succLabel l))
  exact ⟨_, next_ended hrun, succLabel_of_mem_power_labels hrow, rfl, ct.regs⟩

/-- Settles O34: DISP_RATE shows the rate that LOAD_RATE has read, and from LOAD_RATE on the interval fits that rate. -/
theorem rateEncodeFollowsTheDial : Obligations.RateEncodeFollowsTheDial := by
  unfold Obligations.RateEncodeFollowsTheDial
  intro s he
  have hload := performAll_single Config.lag doLoadRate he
  have cu := (comeTo_calm Config.lag he (sameSeqRegs_refl s) rfl).act doLoadRate_acts
  have hdisp := performAll_single Config.lag doDispRate cu.env
  have ct := (comeTo_calm Config.lag cu.env cu.regs cu.pc).act doDispRate_acts
  have hall : performAll Config.lag rateOps s = .ok (doDispRate (comeTo Config.lag (doLoadRate (comeTo Config.lag s)))) := by
    refine (performAll_append Config.lag [doLoadRate] [doDispRate] s).trans ?_
    rw [hload]
    exact hdisp
  have hfits : intervalFits (comeTo Config.lag (doLoadRate (comeTo Config.lag s))) :=
    intervalFits_keptByParts.comeTo Config.lag _ (le_refl (halfTicks (comeTo Config.lag s).inp.dial))
  have hrate : (comeTo Config.lag (doLoadRate (comeTo Config.lag s))).rateR = s.inp.dial := by
    obtain ⟨-, hrate, -⟩ := ct.regs
    exact hrate
  rw [intervalFits, hrate] at hfits
  exact ⟨_, next_ended hall, rfl, rfl, hfits, ct.regs⟩

/-- Settles O35: POWER_ENCODE between the enables and the LED. -/
theorem runOnTurnsTheLaserOn : Obligations.RunOnTurnsTheLaserOn := by
  unfold Obligations.RunOnTurnsTheLaserOn
  intro s he
  obtain ⟨v, hrun, c⟩ := performAll_calm Config.lag runOnBody_acts he (sameSeqRegs_refl s) rfl doSetLed
  exact ⟨_, next_ended hrun, rfl, rfl, rfl, c.time, c.regs_of (runOnBody_regs s)⟩

/-- Settles O36: the shutdown, then POWER_ENCODE, then the LED. -/
theorem runIdleShutsDownAndFollowsTheDial : Obligations.RunIdleShutsDownAndFollowsTheDial := by
  unfold Obligations.RunIdleShutsDownAndFollowsTheDial
  intro s he
  obtain ⟨v, hrun, c⟩ := performAll_calm Config.lag runIdleBody_acts he (sameSeqRegs_refl s) rfl (doClrLed .iClrLed)
  have hticks : s.now + s.seqHold + 5 + wait1Ticks ≤ v.now := by
    have htime := c.time
    simp only [List.sum_append, List.sum_cons, List.sum_nil] at htime
    omega
  exact ⟨_, next_ended hrun, rfl, rfl, rfl, hticks, c.regs_of (runIdleBody_regs s)⟩

/-- Settles O37: the shutdown, then RATE_ENCODE, then the LED. -/
theorem runOffSetRateShutsDownAndSetsTheRate : Obligations.RunOffSetRateShutsDownAndSetsTheRate := by
  unfold Obligations.RunOffSetRateShutsDownAndSetsTheRate
  intro s he
  obtain ⟨v, hrun, c⟩ := performAll_calm Config.lag runOffSetRateBody_acts he (sameSeqRegs_refl s) rfl (doClrLed .fClrLed)
  have hticks : s.now + s.seqHold + 5 + wait1Ticks ≤ v.now := by
    have htime := c.time
    simp only [List.sum_append, List.sum_cons, List.sum_nil] at htime
    omega
  exact ⟨_, next_ended hrun, rfl, rfl, rfl, hticks, c.regs_of (runOffSetRateBody_regs s)⟩

/-- Settles O38: the mode is the one that SET_ALARM_STATE finds, since nothing in the action writes it. -/
theorem alarmActionShutsDownAndLabels : Obligations.AlarmActionShutsDownAndLabels := by
  unfold Obligations.AlarmActionShutsDownAndLabels
  intro s label hrow he
  obtain ⟨t, hrun, -, hpc, hhold, htime, hregs⟩ := alarmOps_labels Config.lag he (last := doSetAlarmState) (label := label)
    fun v hmode => doSetAlarmState_eq (by rw [hmode]; exact alarmLabel_of_mem hrow)
  exact ⟨t, next_ended hrun, hpc, hhold, htime, hregs⟩

/-- Settles O39: each row is the alarm action with its own label as the last act. -/
theorem alarmRowsRecordTheirLabel : Obligations.AlarmRowsRecordTheirLabel := by
  unfold Obligations.AlarmRowsRecordTheirLabel
  intro s x i label hrow he
  simp only [List.mem_cons, List.not_mem_nil, or_false, Prod.mk.injEq] at hrow
  obtain ⟨rfl, rfl⟩ | ⟨rfl, rfl⟩ | ⟨rfl, rfl⟩ | ⟨rfl, rfl⟩ := hrow
  · exact alarmRow_labels he rfl (alarmLabel_of_mem (m := 3#3) (by decide))
  · exact alarmRow_labels he rfl (alarmLabel_of_mem (m := 4#3) (by decide))
  · exact alarmRow_labels he rfl (alarmLabel_of_mem (m := 5#3) (by decide))
  · exact alarmRow_labels he rfl (alarmLabel_reserved x)

/-- Settles O40: the spec's condition of the edge is `startSeq`, and its vector of levels `readDiscrete`. -/
theorem nextModeFollowsTheInputs : Obligations.NextModeFollowsTheInputs := by
  unfold Obligations.NextModeFollowsTheInputs
  intro s c hc he
  obtain rfl : c = candidate (readDiscrete s.inp) := hc
  obtain ⟨t, hrun, -, regs, pc, hold, time⟩ := nextModeRun_calm Config.lag he
  simp only [withNextMode, nextModeTicks, startSeq_iff, readDiscrete, ← Nat.add_assoc] at regs time
  exact ⟨t, next_ended hrun, pc, hold, regs, time⟩

/-- Settles O41: NEXTMODE gives the mode, DISPATCH its action; the cases are those of the candidate. -/
theorem controlCycleRunsTheActionOfTheNewMode : Obligations.ControlCycleRunsTheActionOfTheNewMode := by
  unfold Obligations.ControlCycleRunsTheActionOfTheNewMode
  intro s c hc he
  obtain rfl : c = candidate (readDiscrete s.inp) := hc
  have hticks := two_le_nextModeTicks s
  obtain hon | hidle | hoff | ⟨hge, label, hlabel⟩ := candidate_cases (readDiscrete s.inp)
  · obtain ⟨t, hrun, hpc, hhold, hregs, hled, htime⟩ := controlCycleRun_on Config.lag he hon
    obtain ⟨hpower, hrate, hgate, hafl, hmode, halarm, hpins, hmo, hen, hguide, hdisp, hsamp, hinp, -⟩ := hregs
    have hcycle : s.now + s.seqHold + (if s.mode = 1#3 ∨ s.mode = 2#3 then 12 + wait5Ticks else 10) ≤
        t.now + t.seqHold := by
      rw [← nextModeTicks_of_on hon]
      omega
    refine ⟨t, next_ended hrun, hpc, hhold, hmode, hsamp, hinp, hguide, fun _ => ?on, fun h => absurd hon h,
      fun h => absurd (hon.symm.trans h) (by decide), fun h => absurd (hon.symm.trans h) (by decide),
      fun v hv => absurd (hon ▸ three_le_of_mem_candidates hv) (by decide)⟩
    exact ⟨hmo, hen, hgate, hpower, hpins, hdisp, hrate, halarm, hafl, hled, hcycle⟩
  · obtain ⟨t, hrun, hpc, hhold, hregs, hled, htime⟩ := controlCycleRun_idle Config.lag he hidle
    obtain ⟨hpower, hrate, hgate, hafl, hmode, halarm, hpins, hmo, hen, hguide, hdisp, hsamp, hinp, -⟩ := hregs
    exact ⟨t, next_ended hrun, hpc, hhold, hmode, hsamp, hinp, hguide, fun h => absurd (hidle.symm.trans h) (by decide),
      fun _ => ⟨hmo, hen, hgate, by omega⟩, fun _ => ⟨hpower, hpins, hdisp, hrate, halarm, hafl, hled⟩,
      fun h => absurd (hidle.symm.trans h) (by decide),
      fun v hv => absurd (hidle ▸ three_le_of_mem_candidates hv) (by decide)⟩
  · obtain ⟨t, hrun, hpc, hhold, hregs, hled, htime⟩ := controlCycleRun_offSetRate Config.lag he hoff
    obtain ⟨hpower, hrate, hgate, hafl, hmode, halarm, hpins, hmo, hen, hguide, hdisp, hsamp, hinp, -⟩ := hregs
    exact ⟨t, next_ended hrun, hpc, hhold, hmode, hsamp, hinp, hguide, fun h => absurd (hoff.symm.trans h) (by decide),
      fun _ => ⟨hmo, hen, hgate, by omega⟩, fun h => absurd (hoff.symm.trans h) (by decide),
      fun _ => ⟨hrate, hdisp, hpower, hpins, halarm, hafl, hled⟩,
      fun v hv => absurd (hoff ▸ three_le_of_mem_candidates hv) (by decide)⟩
  · obtain ⟨t, hrun, hpc, hhold, hregs, htime⟩ := controlCycleRun_alarm Config.lag he hlabel
    obtain ⟨hpower, hrate, hgate, hafl, hmode, halarm, hpins, hmo, hen, hguide, hdisp, hsamp, hinp, -⟩ := hregs
    have hother : ∀ {m : BitVec 3}, m.toNat < 3 → candidate (readDiscrete s.inp) ≠ m := by
      rintro m hm rfl
      omega
    refine ⟨t, next_ended hrun, hpc, hhold, hmode, hsamp, hinp, hguide, fun h => absurd h (hother (by decide)),
      fun _ => ⟨hmo, hen, hgate, by omega⟩, fun h => absurd h (hother (by decide)),
      fun h => absurd h (hother (by decide)), fun v hv => ?alarm⟩
    case alarm =>
      have h := Option.some.inj ((alarmLabel_of_mem_candidates hv).symm.trans hlabel)
      exact ⟨hafl, hdisp, halarm.trans h.symm, hpower, hpins, hrate⟩

/-- Settles O42: what the second action writes, the first has written. -/
theorem alarmActionTwiceChangesNothing : Obligations.AlarmActionTwiceChangesNothing := by
  unfold Obligations.AlarmActionTwiceChangesNothing
  intro s t u hmode he ht hu
  obtain ⟨label, hlabel⟩ := alarmLabel_of_ge hmode
  obtain ⟨t', hrun, henv, hpc, hhold, -, hregs⟩ := alarmOps_labels Config.lag he (last := doSetAlarmState) (label := label)
    fun v hv => doSetAlarmState_eq (by rw [hv]; exact hlabel)
  obtain rfl : t' = t := by simpa using (next_ended hrun).symm.trans ht
  have hmode' := mode_of_sameSeqRegs hregs
  obtain ⟨u', hrun', -, hpc', hhold', -, hregs'⟩ :=
    alarmOps_labels Config.lag henv (last := doSetAlarmState) (label := label)
      fun v hv => doSetAlarmState_eq ((congrArg alarmLabel (hv.trans hmode')).trans hlabel)
  obtain rfl : u' = u := by simpa using (next_ended hrun').symm.trans hu
  exact ⟨sameSeqRegs_trans (withAlarm_regs_again hregs) hregs', hpc'.trans hpc.symm, hhold'.trans hhold.symm⟩

end Sys2Proof.Proofs

/-! ## Proofs: the operand functions over the rationals (30_encoding.md R79) -/

namespace Sys2Proof.Machine

theorem fKhz_ratio (r : Byte) : ((fKhz r).num : ℚ) / (fKhz r).den = 156863 / 1000000 * r.toNat + 25 := by
  simp only [fKhz]
  push_cast
  ring

theorem fKhz_num_pos (r : Byte) : 0 < (fKhz r).num := Nat.add_pos_left (by norm_num) _

theorem halfUs_ratio (r : Byte) :
    ((halfUs r).num : ℚ) / (halfUs r).den = 500 / (156863 / 1000000 * r.toNat + 25) := by
  rw [← fKhz_ratio, halfUs]
  push_cast
  exact (div_div_eq_mul_div _ _ _).symm

theorem halfTicksAt_floor (f : Nat) (r : Byte) :
    halfTicksAt f r = max 1 ⌊500 / (156863 / 1000000 * (r.toNat : ℚ) + 25) * f / 1000000 + 1 / 2⌋₊ := by
  have hden : 0 < (fracMul (halfUs r) { num := f, den := 1000000 }).den :=
    fracMul_den_pos (fKhz_num_pos r) (by norm_num)
  rw [halfTicksAt, rhu_eq_floor hden, fracMul_ratio, halfUs_ratio, ← mul_div_assoc]
  norm_num

theorem rateDisp_ratio (r : Byte) :
    ((rateDisp r).num : ℚ) / (rateDisp r).den = 10 * (156863 / 1000000 * r.toNat + 25) := by
  rw [← fKhz_ratio, rateDisp]
  push_cast
  exact mul_div_assoc _ _ _

theorem pwrMv_ratio (r : Byte) : ((pwrMv r).num : ℚ) / (pwrMv r).den = 117641 / 100000 * r.toNat := by
  simp only [pwrMv]
  push_cast
  ring

end Sys2Proof.Machine

/-! ## Proofs: which operation writes which register (10_state.md R32), and what races (20_memory.md R62) -/

namespace Sys2Proof.Machine

/-! ### The operations by their kind -/

/-- What a composite does: a sequence of micro-ops, or one of the two that branch. -/
inductive CompositeRun : (State → Except State State) → Prop where
  | sequence {ops : List (State → State)} (h : ∀ op ∈ ops, MicroOp op) : CompositeRun (performAll Config.lag ops)
  | nextMode : CompositeRun (nextModeRun Config.lag)
  | controlCycle : CompositeRun (controlCycleRun Config.lag)

theorem exec_composite {i : Instr} (h : isComposite i = true) :
    ∃ run, CompositeRun run ∧ ∀ s, exec i s = .next (ended (run s)) := by
  cases i with
  | runOn => exact ⟨_, .sequence runOnOps_microOp, fun _ => rfl⟩
  | runIdle => exact ⟨_, .sequence runIdleOps_microOp, fun _ => rfl⟩
  | runOffSetRate => exact ⟨_, .sequence runOffSetRateOps_microOp, fun _ => rfl⟩
  | runAlarmTemp | runAlarmReflection | runAlarmMo | runAlarmReserved x =>
    exact ⟨_, .sequence (alarmOps_microOp (.alarmLabel _)), fun _ => rfl⟩
  | nextMode => exact ⟨_, .nextMode, fun _ => rfl⟩
  | startupSeq => exact ⟨_, .sequence startupOps_microOp, fun _ => rfl⟩
  | shutdownSeq l => exact ⟨_, .sequence (shutdownOps_microOp l), fun _ => rfl⟩
  | powerEncode l => exact ⟨_, .sequence (powerOps_microOp l), fun _ => rfl⟩
  | rateEncode => exact ⟨_, .sequence rateOps_microOp, fun _ => rfl⟩
  | alarmAction => exact ⟨_, .sequence (alarmOps_microOp .setAlarmState), fun _ => rfl⟩
  | controlCycle => exact ⟨_, .controlCycle, fun _ => rfl⟩
  | _ => cases h

theorem exec_uop {i : Instr} (h : isUop i = true) : ∃ op, MicroOp op ∧ ∀ s, exec i s = .next (op s) := by
  cases i with
  | sample => exact ⟨_, .sample, fun _ => rfl⟩
  | decide => exact ⟨_, .decide, fun _ => rfl⟩
  | setMo l => exact ⟨_, .setMo l, fun _ => rfl⟩
  | setOn l => exact ⟨_, .setOn l, fun _ => rfl⟩
  | clrOn l => exact ⟨_, .clrOn l, fun _ => rfl⟩
  | clrMo l => exact ⟨_, .clrMo l, fun _ => rfl⟩
  | clrGate l => exact ⟨_, .clrGate l, fun _ => rfl⟩
  | setLed => exact ⟨_, .setLed, fun _ => rfl⟩
  | clrLed l => exact ⟨_, .clrLed l, fun _ => rfl⟩
  | wait5ms => exact ⟨_, .wait5ms, fun _ => rfl⟩
  | wait1ms l => exact ⟨_, .wait1ms l, fun _ => rfl⟩
  | commit => exact ⟨_, .commit, fun _ => rfl⟩
  | dispatch => exact ⟨_, .dispatch, fun _ => rfl⟩
  | loop => exact ⟨_, .loop, fun _ => rfl⟩
  | loadPower l => exact ⟨_, .loadPower l, fun _ => rfl⟩
  | dispPower l => exact ⟨_, .dispPower l, fun _ => rfl⟩
  | loadRate => exact ⟨_, .loadRate, fun _ => rfl⟩
  | dispRate => exact ⟨_, .dispRate, fun _ => rfl⟩
  | flashStart => exact ⟨_, .flashStart, fun _ => rfl⟩
  | clrDisplay => exact ⟨_, .clrDisplay, fun _ => rfl⟩
  | setAlarmState => exact ⟨_, .setAlarmState, fun _ => rfl⟩
  | _ => cases h

/-- An operation is a micro-op, a composite, a candidate row or an event. -/
theorem instr_kinds (i : Instr) :
    isUop i = true ∨ isComposite i = true ∨ (∃ v, ∀ s, exec i s = .next { s with cand := v }) ∨
      i = .pulseTick ∨ i = .flashTick ∨ i = .advance ∨ i = .reset := by
  cases i with
  | candAlarmTemp sw | candAlarmReflection sw | candAlarmMo sw | candOn sw2 | candOffSetRate | candIdle =>
    exact .inr (.inr (.inl ⟨_, fun _ => rfl⟩))
  | pulseTick => exact .inr (.inr (.inr (.inl rfl)))
  | flashTick => exact .inr (.inr (.inr (.inr (.inl rfl))))
  | advance => exact .inr (.inr (.inr (.inr (.inr (.inl rfl)))))
  | reset => exact .inr (.inr (.inr (.inr (.inr (.inr rfl)))))
  | runOn | runIdle | runOffSetRate | runAlarmTemp | runAlarmReflection | runAlarmMo | runAlarmReserved x | nextMode
  | startupSeq | shutdownSeq l | powerEncode l | rateEncode | alarmAction | controlCycle => exact .inr (.inl rfl)
  | _ => exact .inl rfl

theorem exec_advance (s : State) : exec .advance s = .next (doAdvance s) := rfl

/-! ### The owners of the registers

In each case below a register that is written contradicts `h`, and any other is kept by definition. -/

theorem actAt_sameReg {l : Label} {r : Reg} (h : writesReg (uopAt l) r = false) (s : State) :
    sameReg r s (actAt l s) := by
  cases l with
  | aFlashStart =>
    rw [actAt, doFlashStart_eq]
    cases r <;> first | rfl | cases h
  | aSetAlarmState =>
    obtain ⟨v, d, e⟩ := doAlarmLabel_eq (alarmLabel s.mode) s
    rw [actAt, doSetAlarmState, e]
    cases r <;> first | rfl | cases h
  | _ => cases r <;> first | rfl | cases h

theorem doPulseTick_sameReg {r : Reg} (h : writesReg .pulseTick r = false) (s : State) : sameReg r s (doPulseTick s) := by
  cases r <;> first | rfl | cases h

theorem doFlashTick_sameReg {r : Reg} (h : writesReg .flashTick r = false) (s : State) : sameReg r s (doFlashTick s) := by
  cases r <;> first | rfl | cases h

theorem doAdvance_sameReg {r : Reg} (h : writesReg .advance r = false) (s : State) : sameReg r s (doAdvance s) := by
  unfold doAdvance
  split
  · cases r <;> rfl
  · cases r <;> first | rfl | cases h

theorem cand_sameReg (r : Reg) (v : BitVec 3) (s : State) : sameReg r s { s with cand := v } := by
  cases r <;> rfl

/-! ### The gate, the guide beam and the flasher's flag under composites (10_state.md R25, R27; 46_alarm_flasher.md R172) -/

/-- From `s` to `t` the gate has not been set, the guide beam not moved and the flasher not stopped. -/
def gateFallsFrom (s t : State) : Prop :=
  (t.gate = s.gate ∨ t.gate = 0#1) ∧ t.guideN = s.guideN ∧ (s.aflRun = 1#1 → t.aflRun = 1#1)

theorem gateFallsFrom_refl (s : State) : gateFallsFrom s s := ⟨.inl rfl, rfl, id⟩

theorem MicroOp.gateFallsFrom {op : State → State} (h : MicroOp op) {s t : State} (ht : gateFallsFrom s t) :
    gateFallsFrom s (op t) := by
  obtain ⟨hgate, hguide, hrun⟩ := ht
  obtain ⟨eguide, -⟩ := h.sameOutsideSeq t
  refine ⟨?_, eguide.trans hguide, fun hs => ?_⟩
  · obtain e | e := h.gate_falls t
    · rw [e]; exact hgate
    · exact .inr e
  · obtain ⟨e, -⟩ | ⟨-, e, -⟩ := h.flasher t
    · exact e.trans (hrun hs)
    · exact e

/-- `P` holds and ENV makes no RESET in what is still to come. -/
def calmWith (P : State → Prop) (s : State) : Prop := P s ∧ noResetInside s

/-- What the passing of time, the micro-ops and the changes of inputs keep, a sequence keeps in which ENV makes no RESET; and
it comes to its end. -/
structure KeptWithoutReset (P : State → Prop) : Prop where
  time : KeptByTime P
  microOp : ∀ {op : State → State}, MicroOp op → ∀ s, P s → P (op s)
  inputs : ∀ s c rest, P s → P { s with inp := changeInputs c s.inp, env := rest }

section

variable {P : State → Prop}

theorem calmWith_keptByTime (hP : KeptByTime P) : KeptByTime (calmWith P) where
  pulseTick s h := ⟨hP.pulseTick s h.1, h.2⟩
  flashTick s hdue h := ⟨hP.flashTick s hdue h.1, h.2⟩
  passTick s h := ⟨hP.passTick s h.1, h.2⟩
  draw s d h := ⟨hP.draw s d h.1, h.2⟩

theorem MicroOp.noResetInside {op : State → State} (h : MicroOp op) {s : State} (hs : noResetInside s) :
    noResetInside (op s) := by
  obtain ⟨-, -, -, hinp, -, -, henv, -⟩ := h.sameOutsideSeq s
  rw [Machine.noResetInside, hinp, henv]
  exact hs

/-- An input change that does not raise RST leaves it low. -/
theorem changeInputs_rst_low {c : InputChange} {i : Inputs} (hi : i.rst = 0#1) (hc : c.rst ≠ some 1#1) :
    (changeInputs c i).rst = 0#1 := by
  have hrst : (changeInputs c i).rst = c.rst.getD i.rst := rfl
  rw [hrst]
  cases hlevel : c.rst with
  | none => exact hi
  | some level =>
    obtain rfl | rfl := BitVec.eq_zero_or_eq_one level
    · rfl
    · exact absurd hlevel hc

theorem awaitSeq_without_reset (hP : KeptWithoutReset P) (τ : Nat → Lag) {s : State} (h : calmWith P s) :
    ∃ t, awaitSeq τ s = .ok t ∧ calmWith P t := by
  obtain ⟨hs, henv⟩ := h
  cases hmoves : s.env with
  | nil => exact ⟨_, awaitSeq_calm τ hmoves, (calmWith_keptByTime hP.time).comeTo τ s ⟨hs, henv⟩⟩
  | cons m rest =>
    obtain hnil | ⟨hrst, hall⟩ := henv
    · rw [hmoves] at hnil; cases hnil
    · rw [hmoves] at hall
      obtain ⟨⟨hreset, hlevel⟩, hrest⟩ := List.forall_mem_cons.mp hall
      have hlow := changeInputs_rst_low hrst hlevel
      exact ⟨_, awaitSeq_change τ hmoves hreset hlow,
        (calmWith_keptByTime hP.time).comeTo τ _ ⟨hP.inputs s m.change rest hs, .inr ⟨hlow, hrest⟩⟩⟩

theorem performAll_without_reset (hP : KeptWithoutReset P) (τ : Nat → Lag) {ops : List (State → State)}
    (ho : ∀ op ∈ ops, MicroOp op) {s : State} (h : calmWith P s) : ∃ t, performAll τ ops s = .ok t ∧ calmWith P t := by
  induction ops generalizing s with
  | nil => exact ⟨s, rfl, h⟩
  | cons op ops ih =>
    obtain ⟨hop, hops⟩ := List.forall_mem_cons.mp ho
    obtain ⟨u, hawait, hu, henv⟩ := awaitSeq_without_reset hP τ h
    rw [performAll, hawait]
    exact ih hops ⟨hP.microOp hop u hu, hop.noResetInside henv⟩

theorem nextModeRun_without_reset (hP : KeptWithoutReset P) (τ : Nat → Lag) {s : State} (h : calmWith P s) :
    ∃ t, nextModeRun τ s = .ok t ∧ calmWith P t := by
  obtain ⟨u, hdecide, hu⟩ := performAll_without_reset hP τ (ops := [doSample, doDecide])
    (by simp [MicroOp.sample, MicroOp.decide]) h
  rw [nextModeRun, hdecide]
  refine performAll_without_reset hP τ (List.forall_mem_append.mpr ⟨?_, by simp [MicroOp.commit]⟩) hu
  split
  · exact startupOps_microOp
  · simp

theorem CompositeRun.without_reset (hP : KeptWithoutReset P) {run : State → Except State State} (hrun : CompositeRun run)
    {s : State} (h : calmWith P s) : ∃ t, run s = .ok t ∧ calmWith P t := by
  cases hrun with
  | sequence ho => exact performAll_without_reset hP _ ho h
  | nextMode => exact nextModeRun_without_reset hP _ h
  | controlCycle =>
    obtain ⟨u, hnext, hu⟩ := nextModeRun_without_reset hP Config.lag h
    rw [controlCycleRun, hnext]
    exact performAll_without_reset hP _ (List.forall_mem_append.mpr
      ⟨List.forall_mem_append.mpr ⟨by simp [MicroOp.dispatch], actionOps_microOp u.mode⟩, by simp [MicroOp.loop]⟩) hu

end

theorem gateFallsFrom_keptWithoutReset (s : State) : KeptWithoutReset (gateFallsFrom s) where
  time :=
    { pulseTick := fun _ h => h
      flashTick := fun _ _ h => h
      passTick := fun _ h => h
      draw := fun _ _ h => h }
  microOp ho _ h := ho.gateFallsFrom h
  inputs _ _ _ h := h

/-! ### What commutes (20_memory.md R62) -/

/-- FLASH_START finds the flasher's flag as a PULSE_TICK leaves it. -/
theorem doFlashStart_doPulseTick (s : State) : doFlashStart (doPulseTick s) = doPulseTick (doFlashStart s) := by
  rw [doFlashStart_eq, doFlashStart_eq]
  rfl

theorem doAlarmLabel_doPulseTick (label : Option (BitVec 3)) (s : State) :
    doAlarmLabel label (doPulseTick s) = doPulseTick (doAlarmLabel label s) := by
  cases label <;> rfl

theorem doAlarmLabel_doFlashTick (label : Option (BitVec 3)) (s : State) :
    doAlarmLabel label (doFlashTick s) = doFlashTick (doAlarmLabel label s) := by
  cases label <;> rfl

/-- While the flasher runs FLASH_START leaves it alone. -/
theorem doFlashStart_doFlashTick {s : State} (h : s.aflRun = 1#1) :
    doFlashStart (doFlashTick s) = doFlashTick (doFlashStart s) := by
  have hticked : startFlasher (doFlashTick s) = doFlashTick s := startFlasher_of_running h
  rw [doFlashStart, doFlashStart, hticked, startFlasher_of_running h]
  rfl

/-- The micro-ops but LOAD_RATE and CLR_GATE commute with PULSE_TICK. -/
theorem uop_comm_doPulseTick {i : Instr} (hu : isUop i = true) (hrate : i ≠ .loadRate) (hgate : ∀ l, i ≠ .clrGate l) :
    ∃ op : State → State, (∀ s, exec i s = .next (op s)) ∧ ∀ s, op (doPulseTick s) = doPulseTick (op s) := by
  cases i with
  | loadRate => exact absurd rfl hrate
  | clrGate l => exact absurd rfl (hgate l)
  | flashStart => exact ⟨_, fun _ => rfl, doFlashStart_doPulseTick⟩
  | setAlarmState => exact ⟨_, fun _ => rfl, fun s => doAlarmLabel_doPulseTick (alarmLabel s.mode) s⟩
  | sample | decide | setMo l | setOn l | clrOn l | clrMo l | setLed | clrLed l | wait5ms | wait1ms l | commit | dispatch
  | loop | loadPower l | dispPower l | dispRate | clrDisplay => exact ⟨_, fun _ => rfl, fun _ => rfl⟩
  | _ => cases hu

/-- The micro-ops but SET_LED and CLR_LED commute with FLASH_TICK while the flasher runs. -/
theorem uop_comm_doFlashTick {i : Instr} (hu : isUop i = true) (hset : i ≠ .setLed) (hclr : ∀ l, i ≠ .clrLed l) :
    ∃ op : State → State, (∀ s, exec i s = .next (op s)) ∧ ∀ s, s.aflRun = 1#1 → op (doFlashTick s) = doFlashTick (op s) := by
  cases i with
  | setLed => exact absurd rfl hset
  | clrLed l => exact absurd rfl (hclr l)
  | flashStart => exact ⟨_, fun _ => rfl, fun _ hrun => doFlashStart_doFlashTick hrun⟩
  | setAlarmState => exact ⟨_, fun _ => rfl, fun s _ => doAlarmLabel_doFlashTick (alarmLabel s.mode) s⟩
  | sample | decide | setMo l | setOn l | clrOn l | clrMo l | clrGate l | wait5ms | wait1ms l | commit | dispatch
  | loop | loadPower l | dispPower l | loadRate | dispRate | clrDisplay => exact ⟨_, fun _ => rfl, fun _ _ => rfl⟩
  | _ => cases hu

/-! ### The periods of the timers (43_periodic_pulse_generator.md R140; 46_alarm_flasher.md R170) -/

theorem firePulse_of_pos {s : State} (h : 0 < s.ppgCnt) : firePulse s = s := by
  rw [firePulse, (pulseDue_eq_false_iff s).mpr h, if_neg Bool.false_ne_true]

theorem fireFlash_of_pos {s : State} (h : 0 < s.aflCnt) : fireFlash s = s := by
  rw [fireFlash, (flashDue_eq_false_iff s).mpr (.inr h), if_neg Bool.false_ne_true]

theorem elapse_now (n : Nat) (s : State) : (elapse n s).now = s.now + n := by
  obtain ⟨-, -, -, hnow, -⟩ := elapse_spec n s
  exact hnow

/-- Up to the tick at which PULSE_TICK falls due the pulse level stays and its counter counts down. -/
theorem elapse_pulse {n : Nat} {s : State} (h : n ≤ s.ppgCnt) :
    (elapse n s).pulse = s.pulse ∧ (elapse n s).ppgCnt = s.ppgCnt - n := by
  induction n generalizing s with
  | zero => exact ⟨rfl, rfl⟩
  | succ n ih =>
    have hfire : fireDue s = fireFlash s := by rw [fireDue, firePulse_of_pos (by omega)]
    obtain ⟨-, -, -, -, -, hpulse, -, hcnt, -⟩ := fireFlash_spec s
    have hleft : (passTick (fireFlash s)).ppgCnt = s.ppgCnt - 1 := congrArg (· - 1) hcnt
    obtain ⟨ihpulse, ihcnt⟩ := ih (s := passTick (fireFlash s)) (by omega)
    rw [elapse, hfire]
    exact ⟨ihpulse.trans hpulse, by omega⟩

/-- The same of FLASH_TICK and the LED, while the flasher runs. -/
theorem elapse_flash {n : Nat} {s : State} (hrun : s.aflRun = 1#1) (h : n ≤ s.aflCnt) :
    (elapse n s).led = s.led ∧ (elapse n s).aflCnt = s.aflCnt - n := by
  induction n generalizing s with
  | zero => exact ⟨rfl, rfl⟩
  | succ n ih =>
    obtain ⟨hregs, -, -, -, -, hled, hcnt, -⟩ := firePulse_spec s
    have hrun' : (firePulse s).aflRun = 1#1 := (aflRun_of_sameSeqRegs hregs).trans hrun
    have hfire : fireDue s = firePulse s := fireFlash_of_pos (by omega)
    have hleft : (passTick (firePulse s)).aflCnt = s.aflCnt - 1 := by
      rw [passTick_aflCnt, if_pos hrun', hcnt]
    obtain ⟨ihled, ihcnt⟩ := ih (s := passTick (firePulse s)) hrun' (by omega)
    rw [elapse, hfire]
    exact ⟨ihled.trans hled, by omega⟩

end Sys2Proof.Machine

namespace Sys2Proof.Proofs

open Sys2Proof.Machine

/-- Settles O58: each fraction of the model has the value of its formula, and rounding is `rhu_eq_floor`. -/
theorem encodersComputeTheFormulas : Obligations.EncodersComputeTheFormulas := by
  unfold Obligations.EncodersComputeTheFormulas
  exact fun r f => ⟨fKhz_ratio r, halfUs_ratio r, halfTicksAt_floor f r, rateDisp_ratio r, pwrMv_ratio r⟩

/-- Settles O51: by the kinds of operation; a well-formed micro-op is the one at some label. -/
theorem onlyOwnersWriteARegister : Obligations.OnlyOwnersWriteARegister := by
  unfold Obligations.OnlyOwnersWriteARegister
  intro i r s t hw hcomposite hne howner h
  obtain hu | hc | ⟨v, hv⟩ | rfl | rfl | rfl | rfl := instr_kinds i
  · obtain ⟨l, rfl⟩ := exists_uopAt_eq hu hw
    obtain rfl : actAt l s = t := by simpa [exec_uopAt] using h
    exact actAt_sameReg howner s
  · rw [hcomposite] at hc; cases hc
  · obtain rfl : { s with cand := v } = t := by simpa [hv] using h
    exact cand_sameReg r v s
  · cases h; exact doPulseTick_sameReg howner s
  · cases h; exact doFlashTick_sameReg howner s
  · cases h; exact doAdvance_sameReg howner s
  · exact absurd rfl hne

/-- Settles O52: each part of an operation but RESET leaves the gate, the guide beam and the flasher's flag so; without a RESET
inside, a composite is made of such parts. -/
theorem gateOnlyFallsAndGuideStays : Obligations.GateOnlyFallsAndGuideStays := by
  unfold Obligations.GateOnlyFallsAndGuideStays
  intro i s t hne hcalm h
  obtain hu | hc | ⟨v, hv⟩ | rfl | rfl | rfl | rfl := instr_kinds i
  · obtain ⟨op, hop, hexec⟩ := exec_uop hu
    obtain rfl : op s = t := by simpa [hexec] using h
    exact hop.gateFallsFrom (gateFallsFrom_refl s)
  · obtain ⟨run, hrun, hexec⟩ := exec_composite hc
    obtain ⟨u, hu, hkept, -⟩ := hrun.without_reset (gateFallsFrom_keptWithoutReset s) ⟨gateFallsFrom_refl s, hcalm hc⟩
    obtain rfl : u = t := by simpa [hexec, hu, ended] using h
    exact hkept
  · obtain rfl : { s with cand := v } = t := by simpa [hv] using h
    exact gateFallsFrom_refl s
  · cases h; exact gateFallsFrom_refl s
  · cases h; exact gateFallsFrom_refl s
  · rw [exec_advance, doAdvance] at h
    cases h
    split
    · exact gateFallsFrom_refl s
    · exact gateFallsFrom_refl s
  · exact absurd rfl hne

/-- Settles O53: two operations commute where neither writes what the other reads or writes. -/
theorem onlyThreePairsRace : Obligations.OnlyThreePairsRace := by
  unfold Obligations.OnlyThreePairsRace
  refine ⟨fun s u v t w h1 h2 h3 h4 => ?timers, fun i s u v t w hu hrate hgate h1 h2 h3 h4 => ?pulse,
    fun i s u v t w hu hset hclr hrun h1 h2 h3 h4 => ?flash⟩
  case timers =>
    cases h1; cases h2; cases h3; cases h4
    rfl
  case pulse =>
    obtain ⟨op, hexec, hcomm⟩ := uop_comm_doPulseTick hu hrate hgate
    rw [hexec] at h2 h3
    cases h1; cases h2; cases h3; cases h4
    exact hcomm s
  case flash =>
    obtain ⟨op, hexec, hcomm⟩ := uop_comm_doFlashTick hu hset hclr
    rw [hexec] at h2 h3
    cases h1; cases h2; cases h3; cases h4
    exact hcomm s hrun

/-- Settles O54: a timer operation reloads its counter with the period, and the counter counts down to 0 before the next. -/
theorem timerPeriodsAreExact : Obligations.TimerPeriodsAreExact := by
  unfold Obligations.TimerPeriodsAreExact
  refine ⟨fun s n hn => ?pulse, fun s n hrun hn => ?flash⟩
  case pulse =>
    obtain ⟨hpulse, hcnt⟩ := elapse_pulse (s := doPulseTick s) hn
    exact ⟨hpulse, hcnt, elapse_now n _⟩
  case flash =>
    obtain ⟨hled, hcnt⟩ := elapse_flash (s := doFlashTick s) hrun hn
    exact ⟨hled, hcnt, elapse_now n _⟩

end Sys2Proof.Proofs

/-! ## Proofs: the Trigger-in pin (20_memory.md R51; 90_conflicts.md D28)

Every part of an operation commutes with a change of the level on that pin. ENV may drive the pin inside a composite, so the
level at the end need not be the one put there at the start. -/

namespace Sys2Proof.Machine

/-- Another level on the Trigger-in pin. -/
def withTrigIn (v : Level) (s : State) : State := { s with inp := { s.inp with trigInN := v } }

theorem doAlarmLabel_withTrigIn (label : Option (BitVec 3)) (v : Level) (s : State) :
    doAlarmLabel label (withTrigIn v s) = withTrigIn v (doAlarmLabel label s) := by
  cases label <;> rfl

theorem MicroOp.withTrigIn {op : State → State} (h : MicroOp op) (v : Level) (s : State) :
    op (withTrigIn v s) = withTrigIn v (op s) := by
  cases h with
  | flashStart => rw [doFlashStart_eq, doFlashStart_eq]; rfl
  | setAlarmState => exact doAlarmLabel_withTrigIn _ v s
  | alarmLabel label => exact doAlarmLabel_withTrigIn label v s
  | _ => rfl

theorem firePulse_withTrigIn (v : Level) (s : State) : firePulse (withTrigIn v s) = withTrigIn v (firePulse s) := by
  have hdue : pulseDue (withTrigIn v s) = pulseDue s := rfl
  unfold firePulse
  rw [hdue]
  split <;> rfl

theorem fireFlash_withTrigIn (v : Level) (s : State) : fireFlash (withTrigIn v s) = withTrigIn v (fireFlash s) := by
  have hdue : flashDue (withTrigIn v s) = flashDue s := rfl
  unfold fireFlash
  rw [hdue]
  split <;> rfl

theorem resetHeld_withTrigIn (v : Level) (s : State) : resetHeld (withTrigIn v s) = resetHeld s := rfl

theorem doAdvance_withTrigIn (v : Level) (s : State) : doAdvance (withTrigIn v s) = withTrigIn v (doAdvance s) := by
  have hdue : timerDue (withTrigIn v s) = timerDue s := rfl
  unfold doAdvance
  rw [hdue]
  split <;> rfl

theorem elapse_withTrigIn (v : Level) (n : Nat) (s : State) : elapse n (withTrigIn v s) = withTrigIn v (elapse n s) := by
  induction n generalizing s with
  | zero => rfl
  | succ n ih =>
    have hfire : fireDue (withTrigIn v s) = withTrigIn v (fireDue s) := by
      rw [fireDue, firePulse_withTrigIn, fireFlash_withTrigIn, fireDue]
    have hpass : passTick (withTrigIn v (fireDue s)) = withTrigIn v (passTick (fireDue s)) := rfl
    rw [elapse, hfire, hpass, ih, elapse]

theorem comeTo_withTrigIn (τ : Nat → Lag) (v : Level) (s : State) :
    comeTo τ (withTrigIn v s) = withTrigIn v (comeTo τ s) := by
  have helapse := elapse_withTrigIn v (s.seqHold + (τ s.draws).ticks) { s with draws := s.draws + 1 }
  have hstart : comeTo τ (withTrigIn v s) =
      (let s1 := elapse (s.seqHold + (τ s.draws).ticks) (withTrigIn v { s with draws := s.draws + 1 })
       let s2 := if (τ s.draws).pulseFirst then firePulse s1 else s1
       if (τ s.draws).flashFirst then fireFlash s2 else s2) := rfl
  rw [hstart, helapse]
  unfold comeTo
  dsimp only
  split <;> split <;> simp only [firePulse_withTrigIn, fireFlash_withTrigIn]

/-- `f` on the state in which a sequence ends, wherever it does. -/
def onEnd (f : State → State) : Except State State → Except State State
  | .ok s => .ok (f s)
  | .error s => .error (f s)

theorem ended_onEnd (f : State → State) (x : Except State State) : ended (onEnd f x) = f (ended x) := by
  cases x <;> rfl

/-- A run of a sequence from a state with another level on the pin ends as the run from the state itself, but for some level
on the pin. -/
def TrigInUnread (run : State → Except State State) : Prop :=
  ∀ (v : Level) (s : State), ∃ x, run (withTrigIn v s) = onEnd (withTrigIn x) (run s)

/-- ENV's next move, then SEQ's coming to its micro-op. -/
theorem awaitSeq_move (τ : Nat → Lag) {s : State} {m : EnvMove} {rest : List EnvMove} (h : s.env = m :: rest) :
    awaitSeq τ s =
      if m.reset || resetHeld { s with inp := changeInputs m.change s.inp, env := rest }
      then .error (doReset { s with inp := changeInputs m.change s.inp, env := rest })
      else .ok (comeTo τ { s with inp := changeInputs m.change s.inp, env := rest }) := by
  rw [awaitSeq, h]

theorem awaitSeq_trigInUnread (τ : Nat → Lag) : TrigInUnread (awaitSeq τ) := by
  intro v s
  cases hmoves : s.env with
  | nil =>
    have hmoves' : (withTrigIn v s).env = [] := hmoves
    refine ⟨v, ?_⟩
    rw [awaitSeq_calm τ hmoves, awaitSeq_calm τ hmoves', comeTo_withTrigIn]
    rfl
  | cons m rest =>
    have hmoves' : (withTrigIn v s).env = m :: rest := hmoves
    have hmoved : ({ withTrigIn v s with inp := changeInputs m.change (withTrigIn v s).inp, env := rest } : State) =
        withTrigIn (m.change.trigInN.getD v) { s with inp := changeInputs m.change s.inp, env := rest } := rfl
    refine ⟨m.change.trigInN.getD v, ?_⟩
    rw [awaitSeq_move τ hmoves, awaitSeq_move τ hmoves', hmoved, comeTo_withTrigIn, resetHeld_withTrigIn]
    split <;> rfl

theorem TrigInUnread.bind {run next : State → Except State State} (hrun : TrigInUnread run) (hnext : TrigInUnread next) :
    TrigInUnread fun s => (run s).bind next := by
  intro v s
  obtain ⟨x, hx⟩ := hrun v s
  cases hs : run s with
  | error u => exact ⟨x, by dsimp only; rw [hx, hs]; rfl⟩
  | ok u =>
    obtain ⟨y, hy⟩ := hnext x u
    exact ⟨y, by dsimp only; rw [hx, hs]; exact hy⟩

theorem performAll_trigInUnread (τ : Nat → Lag) {ops : List (State → State)} (ho : ∀ op ∈ ops, MicroOp op) :
    TrigInUnread (performAll τ ops) := by
  induction ops with
  | nil => exact fun v s => ⟨v, rfl⟩
  | cons op ops ih =>
    obtain ⟨hop, hops⟩ := List.forall_mem_cons.mp ho
    refine (awaitSeq_trigInUnread τ).bind fun v s => ?_
    rw [hop.withTrigIn]
    exact ih hops v (op s)

theorem nextModeRun_trigInUnread (τ : Nat → Lag) : TrigInUnread (nextModeRun τ) := by
  refine (performAll_trigInUnread τ (ops := [doSample, doDecide]) (by simp [MicroOp.sample, MicroOp.decide])).bind
    fun v s => ?_
  refine performAll_trigInUnread τ (List.forall_mem_append.mpr ⟨?_, by simp [MicroOp.commit]⟩) v s
  split
  · exact startupOps_microOp
  · simp

theorem CompositeRun.trigInUnread {run : State → Except State State} (h : CompositeRun run) : TrigInUnread run := by
  cases h with
  | sequence ho => exact performAll_trigInUnread _ ho
  | nextMode => exact nextModeRun_trigInUnread _
  | controlCycle =>
    refine (nextModeRun_trigInUnread _).bind fun v s => ?_
    exact performAll_trigInUnread _ (List.forall_mem_append.mpr
      ⟨List.forall_mem_append.mpr ⟨by simp [MicroOp.dispatch], actionOps_microOp s.mode⟩, by simp [MicroOp.loop]⟩) v s

/-- Whatever operation is performed, with another level on the pin it answers the same but for the level there. -/
theorem exec_withTrigIn (i : Instr) (v : Level) (s : State) :
    ∃ t x, exec i s = .next t ∧ exec i (withTrigIn v s) = .next (withTrigIn x t) := by
  obtain hu | hc | ⟨c, hcand⟩ | rfl | rfl | rfl | rfl := instr_kinds i
  · obtain ⟨op, hop, hexec⟩ := exec_uop hu
    exact ⟨op s, v, hexec s, by rw [hexec, hop.withTrigIn]⟩
  · obtain ⟨run, hrun, hexec⟩ := exec_composite hc
    obtain ⟨x, hx⟩ := hrun.trigInUnread v s
    exact ⟨ended (run s), x, hexec s, by rw [hexec, hx, ended_onEnd]⟩
  · exact ⟨_, v, hcand s, hcand _⟩
  · exact ⟨_, v, rfl, rfl⟩
  · exact ⟨_, v, rfl, rfl⟩
  · exact ⟨_, v, rfl, congrArg _ (doAdvance_withTrigIn v s)⟩
  · exact ⟨_, v, rfl, rfl⟩

end Sys2Proof.Machine

namespace Sys2Proof.Proofs

open Sys2Proof.Machine

/-- Settles O59: no part of an operation reads the pin. -/
theorem triggerInIsNotRead : Obligations.TriggerInIsNotRead := by
  unfold Obligations.TriggerInIsNotRead
  exact fun i s v => exec_withTrigIn i v s

end Sys2Proof.Proofs

/-! ## Proofs: time and composites as runs of single steps (20_memory.md R55; 30_encoding.md R82, R83; log 2, 3, 19)

`CanRun s t` says that a machine that is in `s` and asked for certain steps comes to `t`, whatever it is asked for after them
and whatever the count of free values and ENV's moves inside composites are, which single steps asked for do not use. A
composite is followed part by part: ENV's move and SEQ's coming to a micro-op, then the micro-op, which stands at SEQ's
label. -/

namespace Sys2Proof.Machine

/-- `s` with the model's own fields that single steps asked for do not use. -/
def asking (ag : List Directive) (d : Nat) (e : List EnvMove) (s : State) : State :=
  { s with agenda := ag, draws := d, env := e }

/-- Asked for the steps `acts`, the machine comes from `s` to `t`. -/
def Runs (acts : List Act) (s t : State) : Prop :=
  ∀ (rest : List Directive) (d : Nat) (e : List EnvMove), ∃ k, ∀ j,
    core.run (k + j) (asking (acts.map .act ++ rest) d e s) = core.run j (asking rest d e t)

theorem Runs.nil (s : State) : Runs [] s s := fun _ _ _ => ⟨0, fun j => by rw [Nat.zero_add]; rfl⟩

theorem Runs.append {as bs : List Act} {s t u : State} (h : Runs as s t) (k : Runs bs t u) : Runs (as ++ bs) s u := by
  intro rest d e
  obtain ⟨m, hm⟩ := h (bs.map .act ++ rest) d e
  obtain ⟨n, hn⟩ := k rest d e
  refine ⟨m + n, fun j => ?_⟩
  rw [List.map_append, List.append_assoc, Nat.add_assoc, hm, hn]

/-- A step after which the same is still asked for. -/
theorem Runs.of_step_same {as : List Act} {s t u : State}
    (hstep : ∀ rest d e, step (asking (as.map .act ++ rest) d e s) = .next (asking (as.map .act ++ rest) d e t))
    (h : Runs as t u) : Runs as s u := by
  intro rest d e
  obtain ⟨k, hk⟩ := h rest d e
  refine ⟨k + 1, fun j => ?_⟩
  rw [Nat.add_right_comm, run_succ (hstep rest d e), hk]

theorem enabled_asking (a : Act) (ag : List Directive) (d : Nat) (e : List EnvMove) (s : State) :
    enabled a (asking ag d e s) = enabled a s := by
  cases a <;> rfl

/-- An enabled step asked for is one step. -/
theorem Runs.of_enabled {a : Act} {s t : State} (ha : enabled a s = true)
    (hperform : ∀ rest d e, perform a (asking rest d e s) = .next (asking rest d e t)) : Runs [a] s t := by
  intro rest d e
  have hstep : step (asking (.act a :: rest) d e s) = .next (asking rest d e t) :=
    (step_of_enabled rfl ((enabled_asking a _ d e s).trans ha)).trans (hperform rest d e)
  exact ⟨1, fun j => by rw [Nat.add_comm]; exact run_succ hstep j⟩

/-! ### Waiting for a tick (log 2) -/

/-- A step asked for that is not enabled waits, if it is no FLASH_TICK. -/
theorem step_waits {s : State} {a : Act} {rest : List Directive} (hag : s.agenda = .act a :: rest)
    (ha : enabled a s = false) (hne : a ≠ .flashTick) : step s = perform (waiting s) s := by
  rw [step_of_agenda_act hag, stepAct, ha, if_neg Bool.false_ne_true, if_neg fun h => hne h.1]

theorem enabled_advance_of_timerDue {s : State} (h : timerDue s = true) : enabled .advance s = false := by
  rw [enabled, h, Bool.not_true, Bool.and_false]

theorem waiting_of_pulseDue {s : State} (hheld : resetHeld s = false) (h : pulseDue s = true) : waiting s = .pulseTick := by
  rw [waiting, hheld, if_neg Bool.false_ne_true, if_pos h]

theorem waiting_of_flashDue {s : State} (hheld : resetHeld s = false) (hp : pulseDue s = false) (h : flashDue s = true) :
    waiting s = .flashTick := by
  rw [waiting, hheld, if_neg Bool.false_ne_true, hp, if_neg Bool.false_ne_true, if_pos h]

/-- A PULSE_TICK that is due goes before the tick asked for. -/
theorem Runs.of_firePulse {s t : State} (hheld : resetHeld s = false) (h : Runs [.advance] (firePulse s) t) :
    Runs [.advance] s t := by
  cases hdue : pulseDue s with
  | false =>
    have hfire : firePulse s = s := by rw [firePulse, hdue, if_neg Bool.false_ne_true]
    rwa [hfire] at h
  | true =>
    have hfire : firePulse s = doPulseTick s := by rw [firePulse, if_pos hdue]
    rw [hfire] at h
    refine Runs.of_step_same (fun rest d e => ?_) h
    have hoff : enabled .advance (asking (.act .advance :: rest) d e s) = false :=
      (enabled_asking _ _ d e s).trans (enabled_advance_of_timerDue (by rw [timerDue, hdue, Bool.true_or]))
    have hwait : waiting (asking (.act .advance :: rest) d e s) = .pulseTick := waiting_of_pulseDue hheld hdue
    refine (step_waits rfl hoff (by decide)).trans ?_
    rw [hwait]
    rfl

/-- And then a FLASH_TICK that is due. -/
theorem Runs.of_fireFlash {s t : State} (hheld : resetHeld s = false) (hp : pulseDue s = false)
    (h : Runs [.advance] (fireFlash s) t) : Runs [.advance] s t := by
  cases hdue : flashDue s with
  | false =>
    have hfire : fireFlash s = s := by rw [fireFlash, hdue, if_neg Bool.false_ne_true]
    rwa [hfire] at h
  | true =>
    have hfire : fireFlash s = doFlashTick s := by rw [fireFlash, if_pos hdue]
    rw [hfire] at h
    refine Runs.of_step_same (fun rest d e => ?_) h
    have hoff : enabled .advance (asking (.act .advance :: rest) d e s) = false :=
      (enabled_asking _ _ d e s).trans (enabled_advance_of_timerDue (by rw [timerDue, hdue, Bool.or_true]))
    have hwait : waiting (asking (.act .advance :: rest) d e s) = .flashTick := waiting_of_flashDue hheld hp hdue
    refine (step_waits rfl hoff (by decide)).trans ?_
    rw [hwait]
    rfl

theorem resetHeld_of_sameSeqRegs {s t : State} (h : sameSeqRegs s t) : resetHeld t = resetHeld s := by
  obtain ⟨-, -, -, -, -, -, -, -, -, -, -, -, hinp, -⟩ := h
  rw [resetHeld, hinp, resetHeld]

theorem pulseDue_firePulse (s : State) : pulseDue (firePulse s) = false := by
  obtain ⟨-, -, -, -, -, -, -, hpos, -⟩ := firePulse_spec s
  exact (pulseDue_eq_false_iff _).mpr hpos

/-- One tick, with the timer operations that are due before it. -/
theorem runs_tick {s : State} (hheld : resetHeld s = false) : Runs [.advance] s (passTick (fireDue s)) := by
  have hpulse := (resetHeld_of_sameSeqRegs (firePulse_spec s).1).trans hheld
  have hflash := (resetHeld_of_sameSeqRegs (fireDue_spec s).1).trans hheld
  have hdue := timerDue_fireDue s
  refine .of_firePulse hheld (.of_fireFlash hpulse (pulseDue_firePulse s) ?_)
  refine .of_enabled ((enabled_advance_iff _).mpr ⟨hflash, hdue⟩) fun rest d e => ?_
  exact exec_advance_of_not_timerDue hdue

/-- The passing of `n` ticks is what `n` ADVANCE steps asked for do. -/
theorem runs_elapse (n : Nat) {s : State} (hheld : resetHeld s = false) :
    Runs (List.replicate n .advance) s (elapse n s) := by
  induction n generalizing s with
  | zero => exact .nil s
  | succ n ih =>
    have hregs := (fireDue_spec s).1
    exact (runs_tick hheld).append (ih ((resetHeld_of_sameSeqRegs hregs).trans hheld))

theorem asking_elapse (n : Nat) (s : State) :
    asking [] s.draws s.env (elapse n s) = elapse n { s with agenda := [] } := by
  have henv : asking [] s.draws s.env (elapse n s) = asking [] s.draws (elapse n s).env (elapse n s) := by
    rw [elapse_env]
  exact henv.trans (elapse_bookkeeping n s [] s.draws).symm

/-! ### What single steps can do -/

/-- Some steps asked for bring the machine from `s` to `t`; none is left of them. -/
def CanRun (s t : State) : Prop := t.agenda = s.agenda ∧ ∃ acts, Runs acts s t

theorem CanRun.refl (s : State) : CanRun s s := ⟨rfl, [], .nil s⟩

theorem CanRun.trans {s t u : State} (h : CanRun s t) (k : CanRun t u) : CanRun s u := by
  obtain ⟨hag, as, has⟩ := h
  obtain ⟨kag, bs, hbs⟩ := k
  exact ⟨kag.trans hag, as ++ bs, has.append hbs⟩

/-- Neither the count of free values nor ENV's moves are used. -/
theorem canRun_bookkeeping (s : State) (d : Nat) (e : List EnvMove) : CanRun s { s with draws := d, env := e } :=
  ⟨rfl, [], .nil s⟩

theorem canRun_input {s : State} (c : InputChange) (hheld : resetHeld s = false) :
    CanRun s { s with inp := changeInputs c s.inp } := by
  have ha : enabled (.input c) s = true := by rw [enabled, hheld]; rfl
  exact ⟨rfl, _, .of_enabled ha fun _ _ _ => rfl⟩

theorem canRun_reset (s : State) : CanRun s (doReset s) :=
  ⟨rfl, _, .of_enabled (a := .reset) rfl fun _ _ _ => rfl⟩

theorem canRun_firePulse {s : State} (hheld : resetHeld s = false) : CanRun s (firePulse s) := by
  cases hdue : pulseDue s with
  | false =>
    rw [firePulse, hdue, if_neg Bool.false_ne_true]
    exact .refl s
  | true =>
    have ha : enabled .pulseTick s = true := by rw [enabled, hheld, hdue]; rfl
    rw [firePulse, if_pos hdue]
    exact ⟨rfl, _, .of_enabled ha fun _ _ _ => rfl⟩

theorem canRun_fireFlash {s : State} (hheld : resetHeld s = false) : CanRun s (fireFlash s) := by
  cases hdue : flashDue s with
  | false =>
    rw [fireFlash, hdue, if_neg Bool.false_ne_true]
    exact .refl s
  | true =>
    have ha : enabled .flashTick s = true := by rw [enabled, hheld, hdue]; rfl
    rw [fireFlash, if_pos hdue]
    exact ⟨rfl, _, .of_enabled ha fun _ _ _ => rfl⟩

theorem agenda_of_sameSeqRegs {s t : State} (h : sameSeqRegs s t) : t.agenda = s.agenda := by
  obtain ⟨-, -, -, -, -, -, -, -, -, -, -, -, -, -, hagenda⟩ := h
  exact hagenda

theorem canRun_elapse (n : Nat) {s : State} (hheld : resetHeld s = false) : CanRun s (elapse n s) :=
  ⟨agenda_of_sameSeqRegs (elapse_spec n s).1, _, runs_elapse n hheld⟩

theorem canRun_comeTo (τ : Nat → Lag) {s : State} (hheld : resetHeld s = false) : CanRun s (comeTo τ s) := by
  have hn : CanRun s (elapse (s.seqHold + (τ s.draws).ticks) { s with draws := s.draws + 1 }) :=
    (canRun_bookkeeping s (s.draws + 1) s.env).trans (canRun_elapse _ hheld)
  have hlow := (resetHeld_of_sameSeqRegs
    (elapse_spec (s.seqHold + (τ s.draws).ticks) { s with draws := s.draws + 1 }).1).trans hheld
  unfold comeTo
  dsimp only
  split <;> split
  · exact (hn.trans (canRun_firePulse hlow)).trans
      (canRun_fireFlash ((resetHeld_of_sameSeqRegs (firePulse_spec _).1).trans hlow))
  · exact hn.trans (canRun_fireFlash hlow)
  · exact hn.trans (canRun_firePulse hlow)
  · exact hn

/-- The last act of the alarm action draws no free value for a mode with a label. -/
theorem doSetAlarmState_asking {s : State} {v : BitVec 3} (h : alarmLabel s.mode = some v) (ag : List Directive) (d : Nat)
    (e : List EnvMove) : doSetAlarmState (asking ag d e s) = asking ag d e (doSetAlarmState s) := by
  rw [doSetAlarmState_eq h, doSetAlarmState_eq (v := asking ag d e s) h]
  rfl

/-- The micro-ops do not use the model's own fields, but for a SET_ALARM_STATE that draws its label. -/
theorem actAt_asking {l : Label} {s : State} (h : l = .aSetAlarmState → ∃ v, alarmLabel s.mode = some v)
    (ag : List Directive) (d : Nat) (e : List EnvMove) : actAt l (asking ag d e s) = asking ag d e (actAt l s) := by
  cases l with
  | aFlashStart => rw [actAt, doFlashStart_eq, doFlashStart_eq]; rfl
  | aSetAlarmState =>
    obtain ⟨v, hv⟩ := h rfl
    exact doSetAlarmState_asking hv ag d e
  | _ => rfl

theorem canRun_actAt {s : State} (hheld : resetHeld s = false) (hhold : s.seqHold = 0)
    (h : s.seqPc = .aSetAlarmState → ∃ v, alarmLabel s.mode = some v) : CanRun s (actAt s.seqPc s) := by
  obtain ⟨-, -, -, -, -, hagenda, -⟩ := (actAt_microOp s.seqPc).sameOutsideSeq s
  refine ⟨hagenda, _, .of_enabled ((enabled_seq_iff s).mpr ⟨hheld, hhold⟩) fun rest d e => ?_⟩
  exact (perform_seq _).trans (congrArg _ (actAt_asking h rest d e))

/-! ### Sequences, part by part -/

/-- Single steps bring the machine from `s` to where `x` ends; if that is no RESET, RST is low there and `Q` holds. -/
def Followed (s : State) (Q : State → Prop) : Except State State → Prop
  | .ok t => CanRun s t ∧ resetHeld t = false ∧ Q t
  | .error t => CanRun s t

theorem Followed.canRun {s : State} {Q : State → Prop} {x : Except State State} (h : Followed s Q x) :
    CanRun s (ended x) := by
  cases x with
  | error t => exact h
  | ok t => exact h.1

/-- What is followed from where single steps have come to is followed. -/
theorem Followed.after {s u : State} {Q : State → Prop} {x : Except State State} (hrun : CanRun s u)
    (h : Followed u Q x) : Followed s Q x := by
  cases x with
  | error t => exact hrun.trans h
  | ok t =>
    obtain ⟨krun, kheld, kq⟩ := h
    exact ⟨hrun.trans krun, kheld, kq⟩

theorem Followed.bind {s : State} {Q R : State → Prop} {x : Except State State} {f : State → Except State State}
    (h : Followed s Q x) (hf : ∀ t, resetHeld t = false → Q t → Followed t R (f t)) : Followed s R (x.bind f) := by
  cases x with
  | error t => exact h
  | ok t =>
    obtain ⟨hrun, hheld, hq⟩ := h
    exact (hf t hheld hq).after hrun

/-- ENV's move and SEQ's coming to its next micro-op. -/
theorem awaitSeq_followed (τ : Nat → Lag) {s : State} (hheld : resetHeld s = false) :
    Followed s (fun t => t.seqHold = 0 ∧ t.seqPc = s.seqPc ∧ t.mode = s.mode) (awaitSeq τ s) := by
  have hcome : ∀ u, resetHeld u = false → CanRun s u → u.seqPc = s.seqPc → u.mode = s.mode →
      Followed s (fun t => t.seqHold = 0 ∧ t.seqPc = s.seqPc ∧ t.mode = s.mode) (.ok (comeTo τ u)) := by
    intro u hlow hrun hpc hmode
    obtain ⟨hregs, hlabel, hhold, -, -⟩ := comeTo_spec τ u
    exact ⟨hrun.trans (canRun_comeTo τ hlow), (resetHeld_of_sameSeqRegs hregs).trans hlow, hhold, hlabel.trans hpc,
      (mode_of_sameSeqRegs hregs).trans hmode⟩
  cases hmoves : s.env with
  | nil =>
    rw [awaitSeq_calm τ hmoves]
    exact hcome s hheld (.refl s) rfl rfl
  | cons m rest =>
    have hmoved : CanRun s { s with inp := changeInputs m.change s.inp, env := rest } :=
      (canRun_input m.change hheld).trans (canRun_bookkeeping _ s.draws rest)
    rw [awaitSeq_move τ hmoves]
    split
    next => exact hmoved.trans (canRun_reset _)
    next hno =>
      rw [Bool.not_eq_true, Bool.or_eq_false_iff] at hno
      obtain ⟨-, hlow⟩ := hno
      exact hcome _ hlow hmoved rfl rfl

/-- A micro-op at SEQ's label, and what follows it. -/
theorem performAll_cons_followed (τ : Nat → Lag) {s : State} {Q : State → Prop} {op : State → State}
    {ops : List (State → State)} (hheld : resetHeld s = false)
    (hop : ∀ u, u.mode = s.mode → actAt s.seqPc u = op u)
    (hlabel : s.seqPc = .aSetAlarmState → ∃ v, alarmLabel s.mode = some v)
    (hnext : ∀ u, u.mode = s.mode → resetHeld (op u) = false → Followed (op u) Q (performAll τ ops (op u))) :
    Followed s Q (performAll τ (op :: ops) s) := by
  refine (awaitSeq_followed τ hheld).bind fun u hlow hu => ?_
  obtain ⟨hhold, hpc, hmode⟩ := hu
  have hact : actAt u.seqPc u = op u := by rw [hpc]; exact hop u hmode
  have hrun : CanRun u (op u) := by
    rw [← hact]
    exact canRun_actAt hlow hhold (by rw [hpc, hmode]; exact hlabel)
  have hlow' : resetHeld (op u) = false := by
    obtain ⟨-, -, -, hinp, -⟩ := (actAt_microOp u.seqPc).sameOutsideSeq u
    rw [← hact, resetHeld, hinp]
    exact hlow
  exact (hnext u hmode hlow').after hrun

/-- The labels whose micro-op neither branches nor writes the mode nor the alarm label. -/
def plainLabel (l : Label) : Bool := l != .cDecide && l != .cDispatch && l != .cCommit && l != .aSetAlarmState

/-- `ops` are the micro-ops at the labels from `l` up to `l'`, one after another, while the mode is `m`. -/
inductive Straight (m : BitVec 3) : Label → List (State → State) → Label → Prop where
  | nil (l : Label) : Straight m l [] l
  | cons {l l' : Label} {ops : List (State → State)} (hl : plainLabel l = true) (tail : Straight m (succLabel l) ops l') :
      Straight m l (actAt l :: ops) l'
  | alarm {v : BitVec 3} {last : State → State} {l' : Label} {ops : List (State → State)} (hv : alarmLabel m = some v)
      (hlast : ∀ s, s.mode = m → last s = doAlarmLabel (some v) s) (tail : Straight m .cLoop ops l') :
      Straight m .aSetAlarmState (last :: ops) l'

theorem Straight.append {m : BitVec 3} {l l' l'' : Label} {xs ys : List (State → State)} (h : Straight m l xs l')
    (k : Straight m l' ys l'') : Straight m l (xs ++ ys) l'' := by
  induction h with
  | nil => exact k
  | cons hl _ ih => exact .cons hl (ih k)
  | alarm hv hlast _ ih => exact .alarm hv hlast (ih k)

theorem ne_of_plainLabel {l : Label} (h : plainLabel l = true) :
    l ≠ .cDecide ∧ l ≠ .cDispatch ∧ l ≠ .cCommit ∧ l ≠ .aSetAlarmState := by
  simpa [plainLabel, and_assoc] using h

/-- Such micro-ops, from their first label. -/
theorem Straight.followed (τ : Nat → Lag) {m : BitVec 3} {l l' : Label} {ops : List (State → State)}
    (h : Straight m l ops l') {s : State} (hheld : resetHeld s = false) (hpc : s.seqPc = l) (hmode : s.mode = m) :
    Followed s (fun t => t.seqPc = l' ∧ t.mode = m) (performAll τ ops s) := by
  induction h generalizing s with
  | nil => exact ⟨.refl s, hheld, hpc, hmode⟩
  | @cons l l' ops hl _ ih =>
    obtain ⟨hdecide, hdispatch, hcommit, halarm⟩ := ne_of_plainLabel hl
    refine performAll_cons_followed τ hheld (fun u _ => by rw [hpc]) (fun e => absurd (hpc.symm.trans e) halarm)
      fun u hu hlow => ih hlow (actAt_seqPc_eq_succLabel hdecide hdispatch u) ?_
    rw [actAt_mode, if_neg hcommit, hu, hmode]
  | @alarm v last l' ops hv hlast _ ih =>
    have hact : ∀ u, u.mode = s.mode → doSetAlarmState u = last u := by
      intro u hu
      have hum : u.mode = m := hu.trans hmode
      rw [hlast u hum]
      exact doSetAlarmState_eq (by rw [hum]; exact hv)
    refine performAll_cons_followed τ hheld (fun u hu => by rw [hpc]; exact hact u hu)
      (fun _ => ⟨v, by rw [hmode]; exact hv⟩) fun u hu hlow => ih hlow ?_ ?_
    · rw [hlast u (hu.trans hmode)]; rfl
    · rw [hlast u (hu.trans hmode)]; exact hu.trans hmode

/-- A micro-op that is the last of its sequence, whatever it does to the position and the mode. -/
theorem performAll_single_followed (τ : Nat → Lag) {l : Label} (hl : l ≠ .aSetAlarmState) {s : State}
    (hheld : resetHeld s = false) (hpc : s.seqPc = l) {Q : State → Prop} (hq : ∀ u, u.mode = s.mode → Q (actAt l u)) :
    Followed s Q (performAll τ [actAt l] s) :=
  performAll_cons_followed τ hheld (fun _ _ => by rw [hpc]) (fun e => absurd (hpc.symm.trans e) hl)
    fun u hu hlow => ⟨.refl _, hlow, hq u hu⟩

/-! ### The expansions stand at their labels (40_mode_state_machine.md R90) -/

theorem startupOps_straight (m : BitVec 3) : Straight m .sSetMo startupOps .cCommit :=
  .cons rfl (.cons rfl (.cons rfl (.nil _)))

theorem shutdownOps_straight_idle (m : BitVec 3) : Straight m .iClrGate (shutdownOps .iClrGate) .iLoadPower :=
  .cons rfl (.cons rfl (.cons rfl (.cons rfl (.nil _))))

theorem shutdownOps_straight_offSetRate (m : BitVec 3) : Straight m .fClrGate (shutdownOps .fClrGate) .fLoadRate :=
  .cons rfl (.cons rfl (.cons rfl (.cons rfl (.nil _))))

theorem shutdownOps_straight_alarm (m : BitVec 3) : Straight m .aClrGate (shutdownOps .aClrGate) .aSetAlarmState :=
  .cons rfl (.cons rfl (.cons rfl (.cons rfl (.nil _))))

theorem powerOps_straight_on (m : BitVec 3) : Straight m .nLoadPower (powerOps .nLoadPower) .nSetLed :=
  .cons rfl (.cons rfl (.nil _))

theorem powerOps_straight_idle (m : BitVec 3) : Straight m .iLoadPower (powerOps .iLoadPower) .iClrLed :=
  .cons rfl (.cons rfl (.nil _))

theorem rateOps_straight (m : BitVec 3) : Straight m .fLoadRate rateOps .fClrLed :=
  .cons rfl (.cons rfl (.nil _))

theorem runOnOps_straight (m : BitVec 3) : Straight m .nSetMo runOnOps .cLoop :=
  (Straight.append (.cons rfl (.cons rfl (.nil _))) (powerOps_straight_on m)).append (.cons rfl (.nil _))

theorem runIdleOps_straight (m : BitVec 3) : Straight m .iClrGate runIdleOps .cLoop :=
  ((shutdownOps_straight_idle m).append (powerOps_straight_idle m)).append (.cons rfl (.nil _))

theorem runOffSetRateOps_straight (m : BitVec 3) : Straight m .fClrGate runOffSetRateOps .cLoop :=
  ((shutdownOps_straight_offSetRate m).append (rateOps_straight m)).append (.cons rfl (.nil _))

theorem alarmOps_straight {m v : BitVec 3} (hv : alarmLabel m = some v) {last : State → State}
    (hlast : ∀ s, s.mode = m → last s = doAlarmLabel (some v) s) : Straight m .aFlashStart (alarmOps last) .cLoop :=
  (Straight.append (.cons rfl (.cons rfl (.nil _))) (shutdownOps_straight_alarm m)).append (.alarm hv hlast (.nil _))

theorem alarmAction_straight {m v : BitVec 3} (hv : alarmLabel m = some v) :
    Straight m .aFlashStart (alarmOps doSetAlarmState) .cLoop :=
  alarmOps_straight hv fun _ hs => doSetAlarmState_eq (by rw [hs]; exact hv)

/-- The modes are those of ON, IDLE and OFF_SET_RATE and the ones with an alarm label. -/
theorem mode_cases (m : BitVec 3) : m = 0#3 ∨ m = 1#3 ∨ m = 2#3 ∨ ∃ v, alarmLabel m = some v := by
  revert m; decide

/-- The action of a mode stands at the label to which DISPATCH goes. -/
theorem actionOps_straight (m : BitVec 3) : Straight m (actionEntry m) (actionOps m) .cLoop := by
  obtain rfl | rfl | rfl | ⟨v, hv⟩ := mode_cases m
  · exact runOnOps_straight 0#3
  · exact runIdleOps_straight 1#3
  · exact runOffSetRateOps_straight 2#3
  · have hentry : actionEntry m = .aFlashStart := by
      revert m v; decide
    rw [hentry, actionOps_of_alarmLabel hv]
    exact alarmAction_straight hv

/-! ### The composites -/

theorem doDecide_seqPc_cases (u : State) : (doDecide u).seqPc = .sSetMo ∨ (doDecide u).seqPc = .cCommit := by
  have hpc : (doDecide u).seqPc = if startSeq (candidate u.samp) u.mode then .sSetMo else .cCommit := rfl
  rw [hpc]
  split
  · exact .inl rfl
  · exact .inr rfl

/-- The micro-ops between DECIDE and COMMIT, if any. -/
theorem startup_branch_straight (m : BitVec 3) {l : Label} (h : l = .sSetMo ∨ l = .cCommit) :
    Straight m l (if l = .sSetMo then startupOps else []) .cCommit := by
  obtain rfl | rfl := h
  · exact startupOps_straight m
  · exact .nil _

theorem sampleDecide_followed (τ : Nat → Lag) {s : State} (hheld : resetHeld s = false) (hpc : s.seqPc = .cSample) :
    Followed s (fun t => t.seqPc = .sSetMo ∨ t.seqPc = .cCommit) (performAll τ [doSample, doDecide] s) := by
  have hsample : Straight s.mode .cSample [doSample] .cDecide := .cons rfl (.nil _)
  have happend := performAll_append τ [doSample] [doDecide] s
  rw [List.singleton_append] at happend
  rw [happend]
  refine (hsample.followed τ hheld hpc rfl).bind fun t hlow ht => ?_
  obtain ⟨hdecide, -⟩ := ht
  exact performAll_single_followed τ (l := .cDecide) (by decide) hlow hdecide fun u _ => doDecide_seqPc_cases u

theorem nextModeRun_followed (τ : Nat → Lag) {s : State} (hheld : resetHeld s = false) (hpc : s.seqPc = .cSample) :
    Followed s (fun t => t.seqPc = .cDispatch) (nextModeRun τ s) := by
  refine (sampleDecide_followed τ hheld hpc).bind fun t hlow ht => ?_
  rw [performAll_append]
  refine ((startup_branch_straight t.mode ht).followed τ hlow rfl rfl).bind fun w hw hcommit => ?_
  obtain ⟨hcommit, -⟩ := hcommit
  exact performAll_single_followed τ (l := .cCommit) (by decide) hw hcommit fun _ _ => rfl

theorem controlCycleRun_followed (τ : Nat → Lag) {s : State} (hheld : resetHeld s = false) (hpc : s.seqPc = .cSample) :
    Followed s (fun t => t.seqPc = .cSample) (controlCycleRun τ s) := by
  refine (nextModeRun_followed τ hheld hpc).bind fun t hlow hdispatch => ?_
  rw [List.append_assoc, performAll_append]
  have hdispatched : Followed t (fun u => u.seqPc = actionEntry t.mode ∧ u.mode = t.mode) (performAll τ [doDispatch] t) :=
    performAll_single_followed τ (l := .cDispatch) (by decide) hlow hdispatch fun u hu => ⟨congrArg actionEntry hu, hu⟩
  refine hdispatched.bind fun u hu hentry => ?_
  obtain ⟨hentry, hmode⟩ := hentry
  rw [performAll_append]
  refine ((actionOps_straight t.mode).followed τ hu hentry hmode).bind fun w hw hloop => ?_
  obtain ⟨hloop, -⟩ := hloop
  exact performAll_single_followed τ (l := .cLoop) (by decide) hw hloop fun _ _ => rfl

/-- A composite that stands at the label SEQ is at. -/
theorem Straight.canRun {s : State} {m : BitVec 3} {l l' : Label} {ops : List (State → State)} (h : Straight m l ops l')
    (hheld : resetHeld s = false) (hpc : s.seqPc = l) (hmode : s.mode = m) :
    CanRun s (ended (performAll Config.lag ops s)) :=
  (h.followed Config.lag hheld hpc hmode).canRun

/-- A row of MODE3 that takes the alarm action, in the mode that selects it. -/
theorem alarmRow_canRun {s : State} {m v : BitVec 3} (hheld : resetHeld s = false) (hpc : s.seqPc = .aFlashStart)
    (hmode : s.mode = m) (hv : alarmLabel m = some v) :
    CanRun s (ended (performAll Config.lag (alarmOps (doAlarmLabel (alarmLabel m))) s)) :=
  (alarmOps_straight hv fun _ _ => by rw [hv]).canRun hheld hpc hmode

/-- From a state ready for it, a composite ends where single steps come to. -/
theorem exec_composite_canRun {i : Instr} {s t : State} (hready : compositeReady i s = true) (hheld : resetHeld s = false)
    (h : exec i s = .next t) : CanRun s t := by
  cases i with
  | runOn => cases h; exact (runOnOps_straight s.mode).canRun hheld (beq_iff_eq.mp hready) rfl
  | runIdle => cases h; exact (runIdleOps_straight s.mode).canRun hheld (beq_iff_eq.mp hready) rfl
  | runOffSetRate => cases h; exact (runOffSetRateOps_straight s.mode).canRun hheld (beq_iff_eq.mp hready) rfl
  | runAlarmTemp =>
    cases h
    simp only [compositeReady, Bool.and_eq_true, beq_iff_eq] at hready
    obtain ⟨hpc, hmode⟩ := hready
    exact alarmRow_canRun (v := 1#3) hheld hpc hmode rfl
  | runAlarmReflection =>
    cases h
    simp only [compositeReady, Bool.and_eq_true, beq_iff_eq] at hready
    obtain ⟨hpc, hmode⟩ := hready
    exact alarmRow_canRun (v := 2#3) hheld hpc hmode rfl
  | runAlarmMo =>
    cases h
    simp only [compositeReady, Bool.and_eq_true, beq_iff_eq] at hready
    obtain ⟨hpc, hmode⟩ := hready
    exact alarmRow_canRun (v := 3#3) hheld hpc hmode rfl
  | runAlarmReserved x =>
    cases h
    simp only [compositeReady, Bool.and_eq_true, beq_iff_eq] at hready
    obtain ⟨hpc, hmode⟩ := hready
    exact alarmRow_canRun hheld hpc hmode (alarmLabel_reserved x)
  | nextMode => cases h; exact (nextModeRun_followed Config.lag hheld (beq_iff_eq.mp hready)).canRun
  | startupSeq => cases h; exact (startupOps_straight s.mode).canRun hheld (beq_iff_eq.mp hready) rfl
  | shutdownSeq l =>
    cases h
    simp only [compositeReady, Bool.and_eq_true, Bool.or_eq_true, beq_iff_eq] at hready
    obtain ⟨hpc, (rfl | rfl) | rfl⟩ := hready
    · exact (shutdownOps_straight_idle s.mode).canRun hheld hpc rfl
    · exact (shutdownOps_straight_offSetRate s.mode).canRun hheld hpc rfl
    · exact (shutdownOps_straight_alarm s.mode).canRun hheld hpc rfl
  | powerEncode l =>
    cases h
    simp only [compositeReady, Bool.and_eq_true, Bool.or_eq_true, beq_iff_eq] at hready
    obtain ⟨hpc, rfl | rfl⟩ := hready
    · exact (powerOps_straight_on s.mode).canRun hheld hpc rfl
    · exact (powerOps_straight_idle s.mode).canRun hheld hpc rfl
  | rateEncode => cases h; exact (rateOps_straight s.mode).canRun hheld (beq_iff_eq.mp hready) rfl
  | alarmAction =>
    cases h
    simp only [compositeReady, Bool.and_eq_true, beq_iff_eq, bne_iff_ne] at hready
    obtain ⟨hpc, ⟨hon, hidle⟩, hoff⟩ := hready
    obtain hm | hm | hm | ⟨v, hv⟩ := mode_cases s.mode
    · exact absurd hm hon
    · exact absurd hm hidle
    · exact absurd hm hoff
    · exact (alarmAction_straight hv).canRun hheld hpc rfl
  | controlCycle => cases h; exact (controlCycleRun_followed Config.lag hheld (beq_iff_eq.mp hready)).canRun
  | _ => cases hready

end Sys2Proof.Machine

namespace Sys2Proof.Proofs

open Sys2Proof.Machine

/-- Settles O55: each ADVANCE asked for is one tick, the timer operations due before it being the steps that are taken while it
waits. -/
theorem elapseIsARun : Obligations.ElapseIsARun := by
  unfold Obligations.ElapseIsARun
  intro n s hrst
  obtain ⟨k, hk⟩ := runs_elapse n ((resetHeld_eq_false_iff s).mpr hrst) [] s.draws s.env
  refine ⟨k, ?_⟩
  have hrun := hk 0
  rw [List.map_replicate, List.append_nil, Nat.add_zero, asking_elapse] at hrun
  exact hrun

/-- Settles O56: ENV's moves, the ticks, the timer operations and the micro-ops of a composite are each a step to ask for. -/
theorem compositesAreRuns : Obligations.CompositesAreRuns := by
  unfold Obligations.CompositesAreRuns
  intro i s t _ hready hrst h
  have hready' : compositeReady i { s with agenda := [] } = true := by
    rw [← hready]
    cases i <;> rfl
  obtain ⟨hagenda, acts, hruns⟩ := exec_composite_canRun hready' ((resetHeld_eq_false_iff s).mpr hrst) h
  obtain ⟨k, hk⟩ := hruns [] s.draws s.env
  have hrun := hk 0
  have hnil : t.agenda = [] := hagenda
  have hend : asking [] s.draws s.env t = { t with draws := s.draws, env := s.env } := by rw [asking, ← hnil]
  rw [List.append_nil, Nat.add_zero, hend] at hrun
  exact ⟨acts, k, s.draws, hrun⟩

end Sys2Proof.Proofs
